-- ==== Sys2Proof/Word.lean ====
section
/-! DEFINITION. Word.lean: the words, index types and fixed-size tables that the HX440 manual uses
(spec/00_scope.md, sections 3 to 5).  Nothing here has behaviour of its own. -/

namespace Sys2Proof

/-- One byte of a link packet (R83) or of an SPI frame (R158). -/
abbrev Byte := BitVec 8

/-- One 32-bit word of the management space (chapter 10). -/
abbrev Word := BitVec 32

/-- A word address of the management space (R158: `0x0000` to `0xFFFF`). -/
abbrev Addr := BitVec 16

/-- A host port: 0 to 3 for U0 to U3. -/
abbrev Port := Fin 4

/-- A traffic class: 0 to 7 for C0 to C7. -/
abbrev ClassId := Fin 8

/-- A downstream tag, 0 to 63 (R129). -/
abbrev DTag := Fin 64

/-- A host tag, 0 to 31 (R73). -/
abbrev HostTag := BitVec 5

/-- A stream number, 0 to 15 (R73). -/
abbrev Stream := BitVec 4

/-- A unit address, 0 to 2^31 - 1 (R2). -/
abbrev UnitAddr := BitVec 31

/-- A flow bank, 0 or 1 (R86). -/
abbrev Bank := Fin 2

/-- The index of a flow entry in its bank, 0 to 23 (R86). -/
abbrev EntryIdx := Fin 24

/-- A cause group, numbered as R169 numbers them: 0 to 3 for PORT U0 to U3, 4 to 11 for CLASS C0 to C7,
12 for DOWN and 13 for DEVICE. -/
abbrev GroupId := Fin 14

/-- A table of `n` rows, one for each index: the ports, the classes, the downstream tags, and so on. -/
structure Table (n : Nat) (α : Type) where
  rows : Vector α n
deriving DecidableEq, Repr

namespace Table

variable {n : Nat} {α : Type}

/-- Row `i`. -/
def get (t : Table n α) (i : Fin n) : α := t.rows[i]

/-- The table with row `i` replaced. -/
def put (t : Table n α) (i : Fin n) (a : α) : Table n α := ⟨t.rows.set i a⟩

/-- The table whose row `i` is `f i`. -/
def build (f : Fin n → α) : Table n α := ⟨⟨⟨(List.finRange n).map f⟩, by simp⟩⟩

end Table

end Sys2Proof
end

