-- ==== Sys2Proof/Syntax.lean ====
section
/-! DEFINITION. Syntax.lean: the commands of the part, one constructor for each row of
spec/opcode_table.json, in the table's order.  A command is an event that reaches the part from its
links, its pins, its timers or its management link (spec/95_what_each_step_holds.md). -/

namespace Sys2Proof

/-- The 48 statistics counters (R152): four for each class, three for each host port and four for the
memory port. -/
inductive CounterId where
  | grants (c : ClassId)
  | grantedUnits (c : ClassId)
  | escapeGrants (c : ClassId)
  | classRefusals (c : ClassId)
  | requestsTaken (p : Port)
  | requestsRefused (p : Port)
  | protocolFaults (p : Port)
  | timeouts
  | lateDiscarded
  | unexpectedResponses
  | memoryErrors
deriving DecidableEq, Repr

/-- One command of the part.  `p` is a host port, `c` a class, `g` a cause group, `t` a downstream tag,
`w` the 32-bit word that was received, `arg` the argument byte of a COMMAND word (bits 15 to 8, R164). -/
inductive Instr where
  /-- ARRIVAL_EVENT (R95): the bytes of one packet, header first, have arrived whole at port `p`. -/
  | arrivalEvent (p : Port) (packet : List Byte)
  /-- PORT_LINK_UP (R110). -/
  | portLinkUp (p : Port)
  /-- PORT_LINK_LOST (R111). -/
  | portLinkLost (p : Port)
  /-- UPSTREAM_SEND_BEGIN (R77). -/
  | upstreamSendBegin (p : Port)
  /-- CREDIT_SEND_END (R77). -/
  | creditSendEnd (p : Port)
  /-- RESPONSE_SEND_END (R118). -/
  | responseSendEnd (p : Port)
  /-- GRANT_DECISION (R43). -/
  | grantDecision
  /-- SEND_END (R12). -/
  | sendEnd
  /-- MEMORY_RESPONSE (R79): the bytes of one packet have arrived whole at D. -/
  | memoryResponse (packet : List Byte)
  /-- MEM_CREDIT (R127): the bytes of one CREDIT message have arrived whole at D. -/
  | memCredit (packet : List Byte)
  /-- MEM_TRAINING (R125). -/
  | memTraining
  /-- MEM_LINK_UP (R126), with the credit announcement, 0 to 63. -/
  | memLinkUp (announced : BitVec 6)
  /-- MEM_LINK_LOST (R138). -/
  | memLinkLost
  /-- ENTRY_TIMEOUT (R135). -/
  | entryTimeout (t : DTag)
  /-- WAIT_CLOCK_EXPIRY (R63). -/
  | waitClockExpiry (c : ClassId)
  /-- EPOCH_BOUNDARY (R35). -/
  | epochBoundary
  /-- MID_EPOCH_POINT (R36). -/
  | midEpochPoint
  /-- FRAME_EDGE (R39). -/
  | frameEdge
  /-- RST_ASSERT (R166). -/
  | rstAssert
  /-- RST_RELEASE (R166), with the level sampled from OPENSTRAP (R123; `true` is high). -/
  | rstRelease (openstrap : Bool)
  /-- CS_FALL (R159). -/
  | csFall
  /-- OPCODE_BYTE (R158): the eight bits received. -/
  | opcodeByte (b : Byte)
  /-- CS_RISE (R158). -/
  | csRise
  /-- CLAIM_CAPTURE (R149): the claim word of group `g` is captured. -/
  | claimCapture (g : GroupId)
  /-- CLAIM_COMPLETION (R149): the last bit of the claim word in progress is shifted out. -/
  | claimCompletion
  /-- SNAPSHOT_SLOT_READ (R156): the last bit of the last of the slot's four words is shifted out. -/
  | snapshotSlotRead (c : ClassId)
  /-- WORD_WRITE (R162): a word is taken at the current address. -/
  | wordWrite (w : Word)
  /-- MODE_WRITE (R30). -/
  | modeWrite (c : ClassId) (w : Word)
  /-- ALLOWANCE_WRITE (R31). -/
  | allowanceWrite (c : ClassId) (w : Word)
  /-- DEVICE_CONFIG_WRITE (R167). -/
  | deviceConfigWrite (w : Word)
  /-- RING_WRITE (R47). -/
  | ringWrite (w : Word)
  /-- TENURE_LIMIT_WRITE (R53). -/
  | tenureLimitWrite (c : ClassId) (w : Word)
  /-- WAIT_LIMIT_WRITE (R67). -/
  | waitLimitWrite (c : ClassId) (w : Word)
  /-- FLOW_ENTRY_WRITE (R89): word `k` of entry `i` of bank `b`. -/
  | flowEntryWrite (b : Bank) (i : EntryIdx) (k : Fin 4) (w : Word)
  /-- DEFAULT_CLASS_WRITE (R94). -/
  | defaultClassWrite (p : Port) (w : Word)
  /-- MEM_LIMIT_WRITE (R97). -/
  | memLimitWrite (w : Word)
  /-- ADMIT_WRITE (R99). -/
  | admitWrite (c : ClassId) (w : Word)
  /-- DEPTH_LIMIT_WRITE (R100). -/
  | depthLimitWrite (c : ClassId) (w : Word)
  /-- CREDIT_LIMIT_WRITE (R114). -/
  | creditLimitWrite (p : Port) (w : Word)
  /-- TIMEOUT_WRITE (R131). -/
  | timeoutWrite (w : Word)
  /-- QUARANTINE_LEVEL_WRITE (R136). -/
  | quarantineLevelWrite (w : Word)
  /-- ENABLE_WRITE (R147). -/
  | enableWrite (g : GroupId) (w : Word)
  /-- COUNTER_WRITE (R153). -/
  | counterWrite (n : CounterId) (w : Word)
  /-- OPEN_PORT (R107). -/
  | openPort (arg : Byte)
  /-- CLOSE_PORT (R108). -/
  | closePort (arg : Byte)
  /-- RESET_PORT (R109). -/
  | resetPort (arg : Byte)
  /-- RESET_DOWNSTREAM (R139). -/
  | resetDownstream
  /-- PURGE_CLASS (R14). -/
  | purgeClass (arg : Byte)
  /-- RELOAD_CLASS (R32). -/
  | reloadClass (arg : Byte)
  /-- SET_LOWEST (R46). -/
  | setLowest (arg : Byte)
  /-- SWAP_BANKS (R91). -/
  | swapBanks
  /-- SNAPSHOT (R155): bit `c` of the argument names class `c`. -/
  | snapshot (classes : Byte)
  /-- TRAFFIC_RESET (R165). -/
  | trafficReset
  /-- LAST_ADDRESS_BIT (R158): the 16 address bits received. -/
  | lastAddressBit (a : Addr)
deriving DecidableEq, Repr

/-- The row of spec/opcode_table.json that a command belongs to. -/
def Instr.rowName : Instr → String
  | .arrivalEvent _ _ => "ARRIVAL_EVENT"
  | .portLinkUp _ => "PORT_LINK_UP"
  | .portLinkLost _ => "PORT_LINK_LOST"
  | .upstreamSendBegin _ => "UPSTREAM_SEND_BEGIN"
  | .creditSendEnd _ => "CREDIT_SEND_END"
  | .responseSendEnd _ => "RESPONSE_SEND_END"
  | .grantDecision => "GRANT_DECISION"
  | .sendEnd => "SEND_END"
  | .memoryResponse _ => "MEMORY_RESPONSE"
  | .memCredit _ => "MEM_CREDIT"
  | .memTraining => "MEM_TRAINING"
  | .memLinkUp _ => "MEM_LINK_UP"
  | .memLinkLost => "MEM_LINK_LOST"
  | .entryTimeout _ => "ENTRY_TIMEOUT"
  | .waitClockExpiry _ => "WAIT_CLOCK_EXPIRY"
  | .epochBoundary => "EPOCH_BOUNDARY"
  | .midEpochPoint => "MID_EPOCH_POINT"
  | .frameEdge => "FRAME_EDGE"
  | .rstAssert => "RST_ASSERT"
  | .rstRelease _ => "RST_RELEASE"
  | .csFall => "CS_FALL"
  | .opcodeByte _ => "OPCODE_BYTE"
  | .csRise => "CS_RISE"
  | .claimCapture _ => "CLAIM_CAPTURE"
  | .claimCompletion => "CLAIM_COMPLETION"
  | .snapshotSlotRead _ => "SNAPSHOT_SLOT_READ"
  | .wordWrite _ => "WORD_WRITE"
  | .modeWrite _ _ => "MODE_WRITE"
  | .allowanceWrite _ _ => "ALLOWANCE_WRITE"
  | .deviceConfigWrite _ => "DEVICE_CONFIG_WRITE"
  | .ringWrite _ => "RING_WRITE"
  | .tenureLimitWrite _ _ => "TENURE_LIMIT_WRITE"
  | .waitLimitWrite _ _ => "WAIT_LIMIT_WRITE"
  | .flowEntryWrite _ _ _ _ => "FLOW_ENTRY_WRITE"
  | .defaultClassWrite _ _ => "DEFAULT_CLASS_WRITE"
  | .memLimitWrite _ => "MEM_LIMIT_WRITE"
  | .admitWrite _ _ => "ADMIT_WRITE"
  | .depthLimitWrite _ _ => "DEPTH_LIMIT_WRITE"
  | .creditLimitWrite _ _ => "CREDIT_LIMIT_WRITE"
  | .timeoutWrite _ => "TIMEOUT_WRITE"
  | .quarantineLevelWrite _ => "QUARANTINE_LEVEL_WRITE"
  | .enableWrite _ _ => "ENABLE_WRITE"
  | .counterWrite _ _ => "COUNTER_WRITE"
  | .openPort _ => "OPEN_PORT"
  | .closePort _ => "CLOSE_PORT"
  | .resetPort _ => "RESET_PORT"
  | .resetDownstream => "RESET_DOWNSTREAM"
  | .purgeClass _ => "PURGE_CLASS"
  | .reloadClass _ => "RELOAD_CLASS"
  | .setLowest _ => "SET_LOWEST"
  | .swapBanks => "SWAP_BANKS"
  | .snapshot _ => "SNAPSHOT"
  | .trafficReset => "TRAFFIC_RESET"
  | .lastAddressBit _ => "LAST_ADDRESS_BIT"

/-- The rows of spec/opcode_table.json, in the table's order. -/
def rowNames : List String :=
  ["ARRIVAL_EVENT", "PORT_LINK_UP", "PORT_LINK_LOST", "UPSTREAM_SEND_BEGIN", "CREDIT_SEND_END",
   "RESPONSE_SEND_END", "GRANT_DECISION", "SEND_END", "MEMORY_RESPONSE", "MEM_CREDIT", "MEM_TRAINING",
   "MEM_LINK_UP", "MEM_LINK_LOST", "ENTRY_TIMEOUT", "WAIT_CLOCK_EXPIRY", "EPOCH_BOUNDARY",
   "MID_EPOCH_POINT", "FRAME_EDGE", "RST_ASSERT", "RST_RELEASE", "CS_FALL", "OPCODE_BYTE", "CS_RISE",
   "CLAIM_CAPTURE", "CLAIM_COMPLETION", "SNAPSHOT_SLOT_READ", "WORD_WRITE"] ++
  ["MODE_WRITE", "ALLOWANCE_WRITE", "DEVICE_CONFIG_WRITE", "RING_WRITE", "TENURE_LIMIT_WRITE",
   "WAIT_LIMIT_WRITE", "FLOW_ENTRY_WRITE", "DEFAULT_CLASS_WRITE", "MEM_LIMIT_WRITE", "ADMIT_WRITE",
   "DEPTH_LIMIT_WRITE", "CREDIT_LIMIT_WRITE", "TIMEOUT_WRITE", "QUARANTINE_LEVEL_WRITE",
   "ENABLE_WRITE", "COUNTER_WRITE", "OPEN_PORT", "CLOSE_PORT", "RESET_PORT", "RESET_DOWNSTREAM",
   "PURGE_CLASS", "RELOAD_CLASS", "SET_LOWEST", "SWAP_BANKS", "SNAPSHOT", "TRAFFIC_RESET",
   "LAST_ADDRESS_BIT"]

end Sys2Proof
end

