-- ==== Sys2Proof/Decode.lean ====
section
/-! DEFINITION. Decode.lean: the command that a word spells by the bits of spec/opcode_table.json.  Every row
of the table has an empty list of fields and no fixed bits: no row gives bits, so no word spells a
command (log 5).  The words of the management link, which do have a layout, are read in
Machine/Operands.lean and Machine/Commands.lean (`ownCommand`). -/

namespace Sys2Proof

/-- The command that the `nbits` low bits of `w` spell by the table: none, for no row gives bits. -/
def decodeTableWord (_nbits _w : Nat) : Option Instr := none

end Sys2Proof
end

