-- ==== Sys2Proof/Config.lean ====
section
/-! DEFINITION. Config.lean: the capacities of the part (spec/00_scope.md, section 5) and the four free
values of the model.  A free value is a constant with no body: the manual leaves the choice open, so
nothing can be proved that rests on one choice. -/

namespace Sys2Proof.Config

/-- Entries of the request store (R1). -/
def storeEntries : Nat := 128

/-- The most the four credit limits may sum to (R114). -/
def creditSum : Nat := 128

/-- The highest value of one port's credit limit (R114). -/
def maxCreditLimit : Nat := 64

/-- Responses a port's queue can hold (R117). -/
def queueDepth : Nat := 32

/-- Units in one page (R96). -/
def unitsPerPage : Nat := 128

/-- Units in one MiB (R97). -/
def unitsPerMiB : Nat := 32768

/-- The largest payload a receiver of the part accepts, in bytes (R73, R79). -/
def maxPayload : Nat := 256

/-- Bytes in one unit (R2). -/
def unitBytes : Nat := 32

/-- The value at which a statistics counter saturates (R152). -/
def counterMax : Nat := 4294967295

/-- FREE VALUE (R165, R117): which of the two parts of a TRAFFIC_RESET that place responses is taken
first, the request store's (`true`) or the memory port's (`false`).  The manual says the parts are
taken in any order.  The argument is the draw (`State.freeIndex`), so each reset chooses anew. -/
opaque storePartFirst : Nat → Bool

/-- FREE VALUE (R63, R135): the rank by which the timer events that fall due at one base tick are
taken one after the other.  The manual says they are taken in either order.  The arguments are the
draw and the number of the timer (`dueCode`). -/
opaque eventRank : Nat → Nat → Nat

/-- FREE VALUE (R158, R160): whether the last bit of the word in progress of a READ frame is shifted out in
the microsecond that a base tick ends.  SCK is the controller's, and the table of events has no row for
an ordinary word, so its pace is left open.  The argument is the draw. -/
opaque wordEnds : Nat → Bool

/-- FREE VALUE (R158): what SDO carries at a bit for which the manual states nothing, `none` being high impedance.
The arguments are the draw and the number of the bit. -/
opaque unstatedSdo : Nat → Nat → Option Bool

end Sys2Proof.Config
end

