-- ==== Sys2Proof/Machine/State.lean ====
section
/-! DEFINITION. Machine/State.lean: everything the manual lets the part hold, block by block, as plain
data, with its power-on values; the faults and the refusals.  INVENTORY.md lists each field with the
rule that names it. -/

namespace Sys2Proof.Machine

/-! ## Requests, responses and packets -/

/-- The operation of a request (R2). -/
inductive ReqKind where
  | read
  | write
deriving DecidableEq, Repr

/-- The reason of a REFUSED response (R75, R95). -/
inductive RefusalReason where
  | malformed
  | range
  | denied
  | classOff
  | classFull
deriving DecidableEq, Repr

/-- The kind of a response to a host with what that kind carries (R75). -/
inductive Answer where
  | data (length : Nat) (payload : List Byte)
  | done
  | refused (reason : RefusalReason)
  | timeout
  | aborted
  | failed
deriving DecidableEq, Repr

/-- One response on a port's response queue (R117). -/
structure Response where
  hostTag : HostTag
  answer : Answer
deriving DecidableEq, Repr

/-- A store entry (R2).  Its Phase is where it stands: an entry of `State.held` is HELD, the entry of
`State.issuing` is ISSUING (R3).  `data` is empty for a READ. -/
structure StoreEntry where
  port : Port
  hostTag : HostTag
  stream : Stream
  kind : ReqKind
  unitAddr : UnitAddr
  length : Nat
  data : List Byte
  cls : ClassId
deriving DecidableEq, Repr

/-- What an in-flight entry that is not FREE keeps of its request (R129). -/
structure FlightRecord where
  port : Port
  hostTag : HostTag
  kind : ReqKind
  length : Nat
  cls : ClassId
deriving DecidableEq, Repr

/-- An in-flight entry (R129).  A FREE entry has no fields; a LATE entry has no remaining time; the
remaining time is absent for an entry granted while the response timeout was 0. -/
inductive InFlight where
  | free
  | inFlight (r : FlightRecord) (remaining : Option Nat)
  | orphan (r : FlightRecord) (remaining : Option Nat)
  | late (r : FlightRecord)
deriving DecidableEq, Repr

/-- A request packet on D: the ISSUING entry under its downstream tag (R78). -/
structure DPacket where
  tag : DTag
  entry : StoreEntry
deriving DecidableEq, Repr

/-! ## Host ports (chapter 7) -/

/-- The port state (R106). -/
inductive PortState where
  | disabled
  | waiting
  | opened
  | closing
  | closed
deriving DecidableEq, Repr

/-- The standing request of a port to its link layer (R81, R106). -/
inductive LinkRequest where
  | holdDown
  | permit
deriving DecidableEq, Repr

/-- The upstream transmitter of a port (R77): idle, sending a CREDIT message with its Count, or
sending the response at the head of the queue. -/
inductive UpTx where
  | idle
  | credit (count : Nat)
  | response
deriving DecidableEq, Repr

/-- The Action of a flow entry and the default of a port (R87, R94). -/
inductive Action where
  | cls (c : ClassId)
  | deny
deriving DecidableEq, Repr

/-- What one host port holds (R106, R76, R77, R81, R94) with its statistics counters (R152). -/
structure PortRec where
  state : PortState
  linkUp : Bool
  linkRequest : LinkRequest
  /-- A retrain has been requested (R81) and the link has not come up since. -/
  retrain : Bool
  creditLimit : Nat
  defaultAction : Action
  hostCredits : Nat
  pendingCredits : Nat
  outstanding : List HostTag
  queue : List Response
  upTx : UpTx
  requestsTaken : Nat
  requestsRefused : Nat
  protocolFaults : Nat
deriving DecidableEq, Repr

/-! ## Classes: budget, intake settings, tenure limit, starvation monitor, snapshot slot, counters -/

/-- The mode of a class (R21). -/
inductive Mode where
  | unmetered
  | hold
  | periodic
  | halved
  | triggered
deriving DecidableEq, Repr

/-- One capture of a class (R154). -/
structure Snapshot where
  budget : Int
  queueLength : Nat
  strikes : Fin 3
  mark : Bool
  tenureFlag : Bool
  tenureCount : Nat
  epochCounter : Word
deriving DecidableEq, Repr

/-- What is held for one class: budget (R21), intake settings (R99, R100), tenure limit (R51), wait
clock and strikes (R60), snapshot slot (R154; `none` is FREE) and statistics counters (R152). -/
structure ClassRec where
  mode : Mode
  allowance : Nat
  budget : Int
  admitOn : Bool
  depthLimit : Nat
  tenureLimit : Nat
  writtenWait : Nat
  activeWait : Nat
  clock : Nat
  strikes : Fin 3
  slot : Option Snapshot
  grants : Nat
  grantedUnits : Nat
  escapeGrants : Nat
  classRefusals : Nat
deriving DecidableEq, Repr

/-! ## Epoch timer (R34), arbiter (chapter 3), flow table (chapter 6) -/

/-- The four values of the epoch timer (R34). -/
structure EpochTimer where
  activeExp : Nat
  writtenExp : Nat
  time : Nat
  counter : Word
deriving DecidableEq, Repr

/-- The arbitration mode (R48). -/
inductive ArbMode where
  | fixed
  | rotate
deriving DecidableEq, Repr

/-- The arbiter's own state: the priority ring, highest rank first (R45), the arbitration mode (R48) and
the tenure record (R51). -/
structure Arbiter where
  ring : List ClassId
  mode : ArbMode
  holder : Option ClassId
  count : Nat
deriving DecidableEq, Repr

/-- The Operation field of a flow entry (R87). -/
inductive Operation where
  | any
  | read
  | write
deriving DecidableEq, Repr

/-- A flow entry (R87).  Bit `p` of `portSet` is port Up. -/
structure FlowEntry where
  valid : Bool
  portSet : BitVec 4
  streamLow : Stream
  streamHigh : Stream
  operation : Operation
  windowPresent : Bool
  base : UnitAddr
  limit : UnitAddr
  action : Action
deriving DecidableEq, Repr

/-- The flow banks with the active-bank indicator (R86), and the memory limit in MiB (R97). -/
structure FlowTable where
  banks : Table 2 (Table 24 FlowEntry)
  active : Bank
  memLimit : Nat
deriving DecidableEq, Repr

/-! ## Memory port (chapter 8) -/

/-- The memory link state (R125). -/
inductive LinkState where
  | down
  | training
  | up
deriving DecidableEq, Repr

/-- What the memory port holds (R125 to R131, R136), with its statistics counters (R152). -/
structure MemPort where
  link : LinkState
  /-- A retrain has been requested (R82) and the link layer has not reported training since. -/
  retrain : Bool
  announced : Nat
  credits : Nat
  timeout : Nat
  quarantineLevel : Nat
  table : Table 64 InFlight
  /-- The D transmitter: idle, or the packet being sent (R128). -/
  dTx : Option DPacket
  timeouts : Nat
  lateDiscarded : Nat
  unexpectedResponses : Nat
  memoryErrors : Nat
deriving DecidableEq, Repr

/-! ## Notification block (chapter 9) and management link (chapter 10) -/

/-- One cause group (R146): its flags (R145), enables (R147) and claimed set (R149), bit `i` being the
group's `i`-th cause in the order of R169. -/
structure GroupRec where
  flags : BitVec 8
  enables : BitVec 8
  claimed : BitVec 8
deriving DecidableEq, Repr

/-- Why a management word is refused (R162). -/
inductive Reject where
  | badAddress
  | badValue
  | wrongState
deriving DecidableEq, Repr

/-- The phase of the frame in progress (R158). -/
inductive FramePhase where
  | idle
  | opcode
  | address
  | reading
  | writing
  | void
deriving DecidableEq, Repr

/-- The kind of the frame in progress (R158). -/
inductive FrameKind where
  | read
  | write
deriving DecidableEq, Repr

/-- What the management link holds (R158), with what it has captured for shifting out on SDO. -/
structure MgmtLink where
  phase : FramePhase
  address : Addr
  kind : Option FrameKind
  /-- The address at which the latest READ frame began (R158): it decides which word of a snapshot slot is the
  last of the four to complete within that frame (R156). -/
  readStart : Addr
  /-- The first refused word of the WRITE frame in progress (R163). -/
  failure : Option (Addr × Reject)
  /-- The status result: `none` is OK (R163). -/
  result : Option Reject
  /-- LAST_REJECT (R163): `none` reads as reason none and address 0. -/
  lastReject : Option (Addr × Reject)
  /-- The status byte captured at the last fall of CS (R159). -/
  statusByte : Byte
  /-- The word captured for shifting out in READING (R160); `State.sdo` says what comes out in each phase. -/
  readWord : Word
  /-- The group whose claim word is being shifted out (R149, R150). -/
  claiming : Option GroupId
deriving DecidableEq, Repr

/-- The single lines (section 1.2), as the part has last seen them. -/
structure Pins where
  /-- RST# is low (R166). -/
  rstLow : Bool
  /-- CS is low (R158). -/
  csLow : Bool
  /-- The level sampled from OPENSTRAP at the release of RST# (R123). -/
  openstrap : Bool
  /-- The FRAME edge detector (R39, R41): `none` waits for FRAME to be sampled low and then high;
  `some true` has taken a rising edge since power-on. -/
  frameSample : Option Bool
deriving DecidableEq, Repr

/-! ## The state -/

/-- The state of the part.  `held` holds the HELD entries in the order of taking (R4); the class queues
and the stream chains are the parts of it with one class, or one port and stream (R6, R8). -/
structure State where
  pins : Pins
  held : List StoreEntry
  issuing : Option StoreEntry
  ports : Table 4 PortRec
  classes : Table 8 ClassRec
  /-- The escape list, earliest mark first (R60); a class's escape-pending mark is its membership. -/
  escapeList : List ClassId
  epoch : EpochTimer
  arb : Arbiter
  flow : FlowTable
  mem : MemPort
  groups : Table 14 GroupRec
  mgmt : MgmtLink
  /-- The MODEL's own: the number of draws made so far from the free values of `Config`. -/
  freeIndex : Nat
  /-- The MODEL's own: the commands that are waiting, first in, first out. -/
  pending : List Instr
deriving DecidableEq, Repr

/-! ## Power-on values -/

/-- A host port after power-on, by the level of OPENSTRAP (R123). -/
def PortRec.powerOn (openstrap : Bool) : PortRec where
  state := if openstrap then .waiting else .disabled
  linkUp := false
  linkRequest := if openstrap then .permit else .holdDown
  retrain := false
  creditLimit := 32
  defaultAction := .cls 0
  hostCredits := 0
  pendingCredits := 0
  outstanding := []
  queue := []
  upTx := .idle
  requestsTaken := 0
  requestsRefused := 0
  protocolFaults := 0

/-- Class `c` after power-on (R41, R58, R70, R105, R157): only C0 admits requests. -/
def ClassRec.powerOn (c : ClassId) : ClassRec where
  mode := .unmetered
  allowance := 0
  budget := 0
  admitOn := c = 0
  depthLimit := 128
  tenureLimit := 4
  writtenWait := 0
  activeWait := 0
  clock := 0
  strikes := 0
  slot := none
  grants := 0
  grantedUnits := 0
  escapeGrants := 0
  classRefusals := 0

/-- A flow entry after power-on: Valid clear, every other field 0 (R105). -/
def FlowEntry.powerOn : FlowEntry where
  valid := false
  portSet := 0
  streamLow := 0
  streamHigh := 0
  operation := .any
  windowPresent := false
  base := 0
  limit := 0
  action := .cls 0

/-- The epoch timer after power-on (R41). -/
def EpochTimer.powerOn : EpochTimer where
  activeExp := 10
  writtenExp := 10
  time := 0
  counter := 0

/-- The arbiter after power-on (R58). -/
def Arbiter.powerOn : Arbiter where
  ring := [0, 1, 2, 3, 4, 5, 6, 7]
  mode := .fixed
  holder := none
  count := 0

/-- The flow table and the memory limit after power-on (R105). -/
def FlowTable.powerOn : FlowTable where
  banks := .build fun _ => .build fun _ => .powerOn
  active := 0
  memLimit := 65536

/-- The memory port after power-on (R143, R157). -/
def MemPort.powerOn : MemPort where
  link := .down
  retrain := false
  announced := 0
  credits := 0
  timeout := 2000
  quarantineLevel := 8
  table := .build fun _ => .free
  dTx := none
  timeouts := 0
  lateDiscarded := 0
  unexpectedResponses := 0
  memoryErrors := 0

/-- A cause group after power-on (R157). -/
def GroupRec.powerOn : GroupRec where
  flags := 0
  enables := 0
  claimed := 0

/-- The management link from the release of RST# (R166).  DESIGN CHOICE (log 4): the two captured values,
the current address and the start of the latest READ frame, for which the manual gives no value, are 0. -/
def MgmtLink.powerOn : MgmtLink where
  phase := .idle
  address := 0
  kind := none
  readStart := 0
  failure := none
  result := none
  lastReject := none
  statusByte := 0
  readWord := 0
  claiming := none

/-- The part right after the release of RST#, with OPENSTRAP sampled at the given level (R166, R123). -/
def State.powerOn (openstrap : Bool) : State where
  pins := { rstLow := false, csLow := false, openstrap := openstrap, frameSample := none }
  held := []
  issuing := none
  ports := .build fun _ => .powerOn openstrap
  classes := .build .powerOn
  escapeList := []
  epoch := .powerOn
  arb := .powerOn
  flow := .powerOn
  mem := .powerOn
  groups := .build fun _ => .powerOn
  mgmt := .powerOn
  freeIndex := 0
  pending := []

/-- The part right after reset.  DESIGN CHOICE (log 1): OPENSTRAP was sampled low; `State.powerOn` gives
both levels. -/
def State.reset : State := .powerOn false

/-! ## Stops -/

/-- Faults of the part.  There is none: the manual gives every event of the table an effect, and it has
no machine stop.  (Safe: a model that never stops hides no behaviour behind a stop.) -/
inductive Fault where
deriving DecidableEq, Repr

/-- Refusals. -/
inductive Refusal where
  /-- Raised only by an arm of `exec` whose command has no meaning yet; no arm does so.  Safe: the model
  stops where the part goes on. -/
  | notModelled (mnemonic : String)
deriving DecidableEq, Repr

end Sys2Proof.Machine
end

