-- ==== Sys2Proof/Machine/Operands.lean ====
section
/-! DEFINITION. Machine/Operands.lean: how the operands of a command are read: the packets of the links
(R72, R73, R78 to R80, R83), the word addresses of the management space (R169) and the codes of the
fields of a management word (R169). -/

namespace Sys2Proof.Machine

/-! ## Bits and bytes -/

/-- The number spelled by a list of bytes, the first byte least significant (R83). -/
def leNat : List Byte → Nat
  | [] => 0
  | b :: bs => b.toNat + 256 * leNat bs

/-- `n` as `k` bytes, the first byte least significant (R83). -/
def leBytes : Nat → Nat → List Byte
  | 0, _ => []
  | k + 1, n => BitVec.ofNat 8 n :: leBytes k (n / 256)

/-- Bits `lo` to `lo + len - 1` of a number. -/
def bitsOf (n lo len : Nat) : Nat := n / 2 ^ lo % 2 ^ len

/-- A field of `len` bits put at bit `lo`. -/
def field (v lo len : Nat) : Nat := v % 2 ^ len * 2 ^ lo

/-- One bit put at bit `lo`. -/
def flagBit (b : Bool) (lo : Nat) : Nat := if b then 2 ^ lo else 0

/-! ## Packets -/

/-- The ten kinds of packet (R72). -/
inductive PacketKind where
  | read
  | write
  | credit
  | data
  | done
  | refused
  | timeout
  | aborted
  | failed
  | error
deriving DecidableEq, Repr

/-- The Kind codes (R83). -/
def PacketKind.code : PacketKind → Nat
  | .read => 0x1
  | .write => 0x2
  | .credit => 0x4
  | .data => 0x8
  | .done => 0x9
  | .refused => 0xA
  | .timeout => 0xB
  | .aborted => 0xC
  | .failed => 0xD
  | .error => 0xE

/-- The kind a code names; codes 0x0, 0x3, 0x5, 0x6, 0x7 and 0xF are unknown kinds (R83). -/
def kindOfCode : Nat → Option PacketKind
  | 0x1 => some .read
  | 0x2 => some .write
  | 0x4 => some .credit
  | 0x8 => some .data
  | 0x9 => some .done
  | 0xA => some .refused
  | 0xB => some .timeout
  | 0xC => some .aborted
  | 0xD => some .failed
  | 0xE => some .error
  | _ => none

/-- The packet kind of a request (R78). -/
def ReqKind.packetKind : ReqKind → PacketKind
  | .read => .read
  | .write => .write

/-- The operation a packet kind requests, for READ and WRITE alone (R74 step 2). -/
def requestKind : Option PacketKind → Option ReqKind
  | some .read => some .read
  | some .write => some .write
  | _ => none

/-- The Reason codes (R83). -/
def RefusalReason.code : RefusalReason → Nat
  | .malformed => 0x1
  | .range => 0x2
  | .denied => 0x3
  | .classOff => 0x4
  | .classFull => 0x5

/-- A packet as a host port reads it (R73): the header bits a short packet lacks are taken as 0, and of
the payload the first 256 bytes are kept. -/
structure HostPacket where
  wholeHeader : Bool
  kind : Option PacketKind
  hostTag : HostTag
  stream : Stream
  length : Nat
  unitAddr : UnitAddr
  /-- Every payload byte that arrived, those discarded included. -/
  payloadBytes : Nat
  payload : List Byte
deriving DecidableEq, Repr

/-- The 8-byte header of a host packet as one number (R83). -/
def hostHeader (packet : List Byte) : Nat := leNat (packet.take 8)

/-- How a host port reads the bytes of a packet (R73, R83). -/
def readHostPacket (packet : List Byte) : HostPacket where
  wholeHeader := 8 ≤ packet.length
  kind := kindOfCode (bitsOf (hostHeader packet) 0 4)
  hostTag := BitVec.ofNat 5 (bitsOf (hostHeader packet) 4 5)
  stream := BitVec.ofNat 4 (bitsOf (hostHeader packet) 9 4)
  length := bitsOf (hostHeader packet) 13 4
  unitAddr := BitVec.ofNat 31 (bitsOf (hostHeader packet) 32 31)
  payloadBytes := packet.length - 8
  payload := (packet.drop 8).take Config.maxPayload

/-- The payload a request of the given kind and Length must carry, in bytes (R73). -/
def expectedPayload (kind : ReqKind) (length : Nat) : Nat :=
  match kind with
  | .read => 0
  | .write => length * Config.unitBytes

/-- A packet from the memory as the memory port reads it (R79, R80, R83). -/
structure MemPacket where
  wholeHeader : Bool
  kind : Option PacketKind
  tag : DTag
  /-- The Length field of a response (bits 13 to 10). -/
  length : Nat
  /-- The Count field of a CREDIT message (bits 9 to 4). -/
  count : Nat
  payloadBytes : Nat
  payload : List Byte
deriving DecidableEq, Repr

/-- The 4-byte header of a packet from the memory as one number (R83). -/
def memHeader (packet : List Byte) : Nat := leNat (packet.take 4)

/-- How the memory port reads the bytes of a packet (R79, R83). -/
def readMemPacket (packet : List Byte) : MemPacket where
  wholeHeader := 4 ≤ packet.length
  kind := kindOfCode (bitsOf (memHeader packet) 0 4)
  tag := Fin.ofNat 64 (bitsOf (memHeader packet) 4 6)
  length := bitsOf (memHeader packet) 10 4
  count := bitsOf (memHeader packet) 4 6
  payloadBytes := packet.length - 4
  payload := (packet.drop 4).take Config.maxPayload

/-- A DATA or DONE of correct form (R79): its header is whole, DATA carries exactly Length × 32 bytes
(no byte beyond the 256th), DONE carries none. -/
def MemPacket.correctForm (k : MemPacket) : Bool :=
  k.wholeHeader &&
    match k.kind with
    | some .data => k.payloadBytes == k.length * Config.unitBytes && k.payloadBytes ≤ Config.maxPayload
    | some .done => k.payloadBytes == 0
    | _ => false

/-- The bytes of a request packet from a host (R73, R83). -/
def hostRequestBytes (kind : ReqKind) (hostTag : HostTag) (stream : Stream) (length : Nat)
    (unitAddr : UnitAddr) (payload : List Byte) : List Byte :=
  leBytes 8 (field kind.packetKind.code 0 4 + field hostTag.toNat 4 5 + field stream.toNat 9 4
    + field length 13 4 + field unitAddr.toNat 32 31) ++ payload

/-- The bytes of a response packet from the memory (R79, R83). -/
def memResponseBytes (kind : PacketKind) (tag : DTag) (length : Nat) (payload : List Byte) : List Byte :=
  leBytes 4 (field kind.code 0 4 + field tag.val 4 6 + field length 10 4) ++ payload

/-- The bytes of a CREDIT message from the memory (R80, R83). -/
def memCreditBytes (count : Nat) : List Byte :=
  leBytes 4 (field PacketKind.credit.code 0 4 + field count 4 6)

/-- The packet kind of a response to a host (R75). -/
def Answer.packetKind : Answer → PacketKind
  | .data _ _ => .data
  | .done => .done
  | .refused _ => .refused
  | .timeout => .timeout
  | .aborted => .aborted
  | .failed => .failed

/-- The Reason field of a response: NONE (0) for every kind but REFUSED (R75). -/
def Answer.reasonCode : Answer → Nat
  | .refused r => r.code
  | _ => 0

/-- The Length field of a response: the request's Length for DATA, else 0 (R75). -/
def Answer.length : Answer → Nat
  | .data n _ => n
  | _ => 0

/-- The payload of a response: DATA alone carries one (R75). -/
def Answer.payload : Answer → List Byte
  | .data _ bytes => bytes
  | _ => []

/-- The bytes of a response packet to a host (R75, R83). -/
def Response.bytes (r : Response) : List Byte :=
  leBytes 4 (field r.answer.packetKind.code 0 4 + field r.hostTag.toNat 4 5
    + field r.answer.reasonCode 9 4 + field r.answer.length 13 4) ++ r.answer.payload

/-- The bytes of a CREDIT message to a host, a Count of 64 being written 0x40 (R76, R83). -/
def hostCreditBytes (count : Nat) : List Byte :=
  leBytes 4 (field PacketKind.credit.code 0 4 + field count 4 7)

/-- The bytes of a request packet on D (R78, R83). -/
def DPacket.bytes (d : DPacket) : List Byte :=
  leBytes 8 (field d.entry.kind.packetKind.code 0 4 + field d.tag.val 4 6
    + field d.entry.stream.toNat 10 4 + field d.entry.length 14 4 + field d.entry.port.val 18 2
    + field d.entry.hostTag.toNat 20 5 + field d.entry.unitAddr.toNat 32 31) ++ d.entry.data

/-! ## Addresses of the management space (R169) -/

/-- The words mapped in the management space (R169).  Word `k` of a flow entry or a snapshot slot is 0 to
3; `second` is word 1 of a downstream tag's in-flight view. -/
inductive MgmtWord where
  | identity
  | deviceConfig
  | status0
  | status1
  | memLimit
  | timeout
  | quarantineLevel
  | ring
  | command
  | lastReject
  | portState (p : Port)
  | creditLimit (p : Port)
  | defaultClass (p : Port)
  | portCredits (p : Port)
  | portLoad (p : Port)
  | mode (c : ClassId)
  | allowance (c : ClassId)
  | budget (c : ClassId)
  | admitOn (c : ClassId)
  | depthLimit (c : ClassId)
  | tenureLimit (c : ClassId)
  | waitLimit (c : ClassId)
  | classState (c : ClassId)
  | flowEntry (b : Bank) (i : EntryIdx) (k : Fin 4)
  | inFlight (t : DTag) (second : Bool)
  | slot (c : ClassId) (k : Fin 4)
  | counter (n : CounterId)
  | claim (g : GroupId)
  | peek (g : GroupId)
  | enable (g : GroupId)
  | causeSummary
deriving DecidableEq, Repr

/-- The address of a statistics counter (R169). -/
def counterAddress : CounterId → Nat
  | .grants c => 0x0800 + 4 * c.val
  | .grantedUnits c => 0x0801 + 4 * c.val
  | .escapeGrants c => 0x0802 + 4 * c.val
  | .classRefusals c => 0x0803 + 4 * c.val
  | .requestsTaken p => 0x0820 + 4 * p.val
  | .requestsRefused p => 0x0821 + 4 * p.val
  | .protocolFaults p => 0x0822 + 4 * p.val
  | .timeouts => 0x0830
  | .lateDiscarded => 0x0831
  | .unexpectedResponses => 0x0832
  | .memoryErrors => 0x0833

/-- The address of a mapped word (R169), as a number. -/
def MgmtWord.address : MgmtWord → Nat
  | .identity => 0x0000
  | .deviceConfig => 0x0001
  | .status0 => 0x0002
  | .status1 => 0x0003
  | .memLimit => 0x0004
  | .timeout => 0x0005
  | .quarantineLevel => 0x0006
  | .ring => 0x0007
  | .command => 0x0008
  | .lastReject => 0x0009
  | .portState p => 0x0100 + 16 * p.val
  | .creditLimit p => 0x0101 + 16 * p.val
  | .defaultClass p => 0x0102 + 16 * p.val
  | .portCredits p => 0x0103 + 16 * p.val
  | .portLoad p => 0x0104 + 16 * p.val
  | .mode c => 0x0200 + 16 * c.val
  | .allowance c => 0x0201 + 16 * c.val
  | .budget c => 0x0202 + 16 * c.val
  | .admitOn c => 0x0203 + 16 * c.val
  | .depthLimit c => 0x0204 + 16 * c.val
  | .tenureLimit c => 0x0205 + 16 * c.val
  | .waitLimit c => 0x0206 + 16 * c.val
  | .classState c => 0x0207 + 16 * c.val
  | .flowEntry b i k => 0x0400 + 0x0100 * b.val + 4 * i.val + k.val
  | .inFlight t second => 0x0600 + 2 * t.val + (if second then 1 else 0)
  | .slot c k => 0x0700 + 4 * c.val + k.val
  | .counter n => counterAddress n
  | .claim g => 0x0900 + 4 * g.val
  | .peek g => 0x0901 + 4 * g.val
  | .enable g => 0x0902 + 4 * g.val
  | .causeSummary => 0x0940

/-- The address of a mapped word (R169). -/
def MgmtWord.addr (w : MgmtWord) : Addr := BitVec.ofNat 16 w.address

/-- The device word at an address below 0x0100 (R169). -/
def deviceWordAt : Nat → Option MgmtWord
  | 0x0000 => some .identity
  | 0x0001 => some .deviceConfig
  | 0x0002 => some .status0
  | 0x0003 => some .status1
  | 0x0004 => some .memLimit
  | 0x0005 => some .timeout
  | 0x0006 => some .quarantineLevel
  | 0x0007 => some .ring
  | 0x0008 => some .command
  | 0x0009 => some .lastReject
  | _ => none

/-- The word at offset `k` in the block of port `p` (R169). -/
def portWordAt (p : Port) : Nat → Option MgmtWord
  | 0 => some (.portState p)
  | 1 => some (.creditLimit p)
  | 2 => some (.defaultClass p)
  | 3 => some (.portCredits p)
  | 4 => some (.portLoad p)
  | _ => none

/-- The word at offset `k` in the block of class `c` (R169). -/
def classWordAt (c : ClassId) : Nat → Option MgmtWord
  | 0 => some (.mode c)
  | 1 => some (.allowance c)
  | 2 => some (.budget c)
  | 3 => some (.admitOn c)
  | 4 => some (.depthLimit c)
  | 5 => some (.tenureLimit c)
  | 6 => some (.waitLimit c)
  | 7 => some (.classState c)
  | _ => none

/-- The counter at offset `k` of class `c`'s counters (R169). -/
def classCounterAt (c : ClassId) : Nat → Option MgmtWord
  | 0 => some (.counter (.grants c))
  | 1 => some (.counter (.grantedUnits c))
  | 2 => some (.counter (.escapeGrants c))
  | 3 => some (.counter (.classRefusals c))
  | _ => none

/-- The counter at offset `k` of port `p`'s counters (R169). -/
def portCounterAt (p : Port) : Nat → Option MgmtWord
  | 0 => some (.counter (.requestsTaken p))
  | 1 => some (.counter (.requestsRefused p))
  | 2 => some (.counter (.protocolFaults p))
  | _ => none

/-- The memory port counter at offset `k` (R169). -/
def memCounterAt : Nat → Option MgmtWord
  | 0 => some (.counter .timeouts)
  | 1 => some (.counter .lateDiscarded)
  | 2 => some (.counter .unexpectedResponses)
  | 3 => some (.counter .memoryErrors)
  | _ => none

/-- The word at offset `k` of cause group `g` (R169). -/
def groupWordAt (g : GroupId) : Nat → Option MgmtWord
  | 0 => some (.claim g)
  | 1 => some (.peek g)
  | 2 => some (.enable g)
  | _ => none

/-- The word mapped at an address; `none` where the address is unmapped (R169). -/
def wordAt (n : Nat) : Option MgmtWord :=
  if n < 0x0100 then deviceWordAt n
  else if n < 0x0140 then portWordAt (Fin.ofNat 4 ((n - 0x0100) / 16)) ((n - 0x0100) % 16)
  else if n < 0x0200 then none
  else if n < 0x0280 then classWordAt (Fin.ofNat 8 ((n - 0x0200) / 16)) ((n - 0x0200) % 16)
  else if n < 0x0400 then none
  else if n < 0x0460 then some (.flowEntry 0 (Fin.ofNat 24 ((n - 0x0400) / 4)) (Fin.ofNat 4 (n % 4)))
  else if n < 0x0500 then none
  else if n < 0x0560 then some (.flowEntry 1 (Fin.ofNat 24 ((n - 0x0500) / 4)) (Fin.ofNat 4 (n % 4)))
  else if n < 0x0600 then none
  else if n < 0x0680 then some (.inFlight (Fin.ofNat 64 ((n - 0x0600) / 2)) (n % 2 == 1))
  else if n < 0x0700 then none
  else if n < 0x0720 then some (.slot (Fin.ofNat 8 ((n - 0x0700) / 4)) (Fin.ofNat 4 (n % 4)))
  else if n < 0x0800 then none
  else if n < 0x0820 then classCounterAt (Fin.ofNat 8 ((n - 0x0800) / 4)) (n % 4)
  else if n < 0x0830 then portCounterAt (Fin.ofNat 4 ((n - 0x0820) / 4)) (n % 4)
  else if n < 0x0834 then memCounterAt (n - 0x0830)
  else if n < 0x0900 then none
  else if n < 0x0938 then groupWordAt (Fin.ofNat 14 ((n - 0x0900) / 4)) (n % 4)
  else if n = 0x0940 then some .causeSummary
  else none

/-- The word mapped at an address of the link (R169). -/
def decodeAddr (a : Addr) : Option MgmtWord := wordAt a.toNat

/-! ## Codes of management words (R169) -/

/-- The mode a MODE word names (R30, R169). -/
def modeOfCode : Nat → Option Mode
  | 0 => some .unmetered
  | 1 => some .hold
  | 2 => some .periodic
  | 3 => some .halved
  | 4 => some .triggered
  | _ => none

/-- The code of a mode (R169). -/
def Mode.code : Mode → Nat
  | .unmetered => 0
  | .hold => 1
  | .periodic => 2
  | .halved => 3
  | .triggered => 4

/-- The action a DEFAULT_CLASS word or an Action field names: 0 to 7 a class, 8 DENY (R169). -/
def actionOfCode (n : Nat) : Option Action :=
  if n < 8 then some (.cls (Fin.ofNat 8 n)) else if n = 8 then some .deny else none

/-- The code of an action (R169). -/
def Action.code : Action → Nat
  | .cls c => c.val
  | .deny => 8

/-- The operation an Operation field names: 0 ANY, 1 READ, 2 WRITE (R169). -/
def operationOfCode : Nat → Option Operation
  | 0 => some .any
  | 1 => some .read
  | 2 => some .write
  | _ => none

/-- The code of an operation (R169). -/
def Operation.code : Operation → Nat
  | .any => 0
  | .read => 1
  | .write => 2

/-- The code of a port state (R169). -/
def PortState.code : PortState → Nat
  | .disabled => 0
  | .waiting => 1
  | .opened => 2
  | .closing => 3
  | .closed => 4

/-- The code of a memory link state (R169). -/
def LinkState.code : LinkState → Nat
  | .down => 0
  | .training => 1
  | .up => 2

/-- The code of a refusal reason, in LAST_REJECT (R169) and as the status result (R159). -/
def Reject.code : Reject → Nat
  | .badAddress => 1
  | .badValue => 2
  | .wrongState => 3

/-- The code of an optional reason: 0 for none (R169) or OK (R159). -/
def rejectCode : Option Reject → Nat
  | none => 0
  | some r => r.code

/-- The class list a RING word gives: bits 4i+3 to 4i are the class at position i (R169); `none` where a
number is above 7 or a class appears twice (R47). -/
def ringOfWord (w : Word) : Option (List ClassId) :=
  let numbers := (List.range 8).map fun i => bitsOf w.toNat (4 * i) 4
  if numbers.all (· < 8) && decide numbers.Nodup then some (numbers.map (Fin.ofNat 8)) else none

/-- The RING word of a class list (R169). -/
def wordOfRing : List ClassId → Nat
  | [] => 0
  | c :: cs => c.val + 16 * wordOfRing cs

end Sys2Proof.Machine
end

