-- ==== Sys2Proof/Machine/Flags.lean ====
section
/-! DEFINITION. Machine/Flags.lean: the notification block's operations: raising a cause, the enables and
ALERT#, the claim words, and the saturating statistics counters (spec chapter 9). -/

namespace Sys2Proof.Machine

/-! ## Causes (R146, numbered as R169 numbers them) -/

/-- The causes of a PORT group. -/
inductive PortCause where
  | opened
  | closed
  | linkLost
  | fault
  | refusal
deriving DecidableEq, Repr

/-- The causes of a CLASS group. -/
inductive ClassCause where
  | spent
  | starved
  | escape
  | full
deriving DecidableEq, Repr

/-- The causes of the DOWN group. -/
inductive DownCause where
  | timeout
  | late
  | unexpected
  | memError
  | creditFault
  | linkLost
  | linkUp
  | quarantine
deriving DecidableEq, Repr

/-- The causes of the DEVICE group. -/
inductive DeviceCause where
  | epoch
  | frame
  | reject
deriving DecidableEq, Repr

/-- One cause (R146). -/
inductive Cause where
  | port (p : Port) (k : PortCause)
  | cls (c : ClassId) (k : ClassCause)
  | down (k : DownCause)
  | device (k : DeviceCause)
deriving DecidableEq, Repr

/-- The bit of a PORT cause (R169). -/
def PortCause.bit : PortCause → Nat
  | .opened => 0
  | .closed => 1
  | .linkLost => 2
  | .fault => 3
  | .refusal => 4

/-- The bit of a CLASS cause (R169). -/
def ClassCause.bit : ClassCause → Nat
  | .spent => 0
  | .starved => 1
  | .escape => 2
  | .full => 3

/-- The bit of a DOWN cause (R169). -/
def DownCause.bit : DownCause → Nat
  | .timeout => 0
  | .late => 1
  | .unexpected => 2
  | .memError => 3
  | .creditFault => 4
  | .linkLost => 5
  | .linkUp => 6
  | .quarantine => 7

/-- The bit of a DEVICE cause (R169). -/
def DeviceCause.bit : DeviceCause → Nat
  | .epoch => 0
  | .frame => 1
  | .reject => 2

/-- The group of port `p` (R169). -/
def portGroup (p : Port) : GroupId := ⟨p.val, by omega⟩

/-- The group of class `c` (R169). -/
def classGroup (c : ClassId) : GroupId := ⟨4 + c.val, by omega⟩

/-- The DOWN group (R169). -/
def downGroup : GroupId := 12

/-- The DEVICE group (R169). -/
def deviceGroup : GroupId := 13

/-- The group a cause belongs to. -/
def Cause.group : Cause → GroupId
  | .port p _ => portGroup p
  | .cls c _ => classGroup c
  | .down _ => downGroup
  | .device _ => deviceGroup

/-- The bit of a cause in its group's words. -/
def Cause.bit : Cause → Nat
  | .port _ k => k.bit
  | .cls _ k => k.bit
  | .down k => k.bit
  | .device k => k.bit

/-- The bits of a group's words that hold a cause: PORT has five causes, CLASS four, DOWN eight and
DEVICE three (R146). -/
def groupMask (g : GroupId) : BitVec 8 :=
  if g.val < 4 then 0x1F else if g.val < 12 then 0x0F else if g.val = 12 then 0xFF else 0x07

/-- The mask of one cause in its group's words. -/
def Cause.mask (k : Cause) : BitVec 8 := BitVec.twoPow 8 k.bit

/-- A raise as its group takes it: the flag is set whatever the enable (R145), and a cause of the claimed
set leaves the claimed set (R149). -/
def GroupRec.raise (g : GroupRec) (m : BitVec 8) : GroupRec :=
  { g with flags := g.flags ||| m, claimed := g.claimed &&& ~~~m }

/-- A cause is raised (R145). -/
def State.raise (s : State) (k : Cause) : State :=
  { s with groups := s.groups.put k.group ((s.groups.get k.group).raise k.mask) }

/-- A cause is set: its flag holds. -/
def State.causeSet (s : State) (k : Cause) : Bool := (s.groups.get k.group).flags.getLsbD k.bit

/-! ## Enables and ALERT# (R147, R148) -/

/-- A group's indication in CAUSE_SUMMARY: one of its causes is set with its enable at 1 (R148). -/
def GroupRec.indicated (g : GroupRec) : Bool := g.flags &&& g.enables != 0

/-- ALERT# is asserted: some cause is set whose enable is 1 (R148). -/
def State.alert (s : State) : Bool := (List.finRange 14).any fun g => (s.groups.get g).indicated

/-- CAUSE_SUMMARY: bit g is group g's indication (R148, R169). -/
def State.causeSummary (s : State) : Nat :=
  ((List.finRange 14).map fun g => flagBit (s.groups.get g).indicated g.val).sum

/-! ## Claims (R149, R150) -/

/-- The capture of a claim word: the claimed set becomes the set of the flags that are set (R149). -/
def State.captureClaim (s : State) (g : GroupId) : State :=
  { s with
    groups := s.groups.put g { s.groups.get g with claimed := (s.groups.get g).flags }
    mgmt := { s.mgmt with claiming := some g } }

/-- The completion of a claim: the flags of the claimed set are cleared and the set becomes empty
(R149). -/
def State.completeClaim (s : State) (g : GroupId) : State :=
  { s with
    groups := s.groups.put g
      { s.groups.get g with
        flags := (s.groups.get g).flags &&& ~~~(s.groups.get g).claimed
        claimed := 0 }
    mgmt := { s.mgmt with claiming := none } }

/-- A claim abandoned by a rise of CS: the claimed set is emptied and every flag keeps its value
(R150). -/
def State.abandonClaim (s : State) : State :=
  match s.mgmt.claiming with
  | none => s
  | some g =>
    { s with
      groups := s.groups.put g { s.groups.get g with claimed := 0 }
      mgmt := { s.mgmt with claiming := none } }

/-! ## Statistics counters (R152) -/

/-- An addition to a counter, which saturates at 2^32 - 1 (R152). -/
def bump (n k : Nat) : Nat := min (n + k) Config.counterMax

/-- The value of a counter. -/
def State.counter (s : State) : CounterId → Nat
  | .grants c => (s.classes.get c).grants
  | .grantedUnits c => (s.classes.get c).grantedUnits
  | .escapeGrants c => (s.classes.get c).escapeGrants
  | .classRefusals c => (s.classes.get c).classRefusals
  | .requestsTaken p => (s.ports.get p).requestsTaken
  | .requestsRefused p => (s.ports.get p).requestsRefused
  | .protocolFaults p => (s.ports.get p).protocolFaults
  | .timeouts => s.mem.timeouts
  | .lateDiscarded => s.mem.lateDiscarded
  | .unexpectedResponses => s.mem.unexpectedResponses
  | .memoryErrors => s.mem.memoryErrors

/-- A counter set to 0, as any write of it does (R153). -/
def State.clearCounter (s : State) : CounterId → State
  | .grants c => { s with classes := s.classes.put c { s.classes.get c with grants := 0 } }
  | .grantedUnits c => { s with classes := s.classes.put c { s.classes.get c with grantedUnits := 0 } }
  | .escapeGrants c => { s with classes := s.classes.put c { s.classes.get c with escapeGrants := 0 } }
  | .classRefusals c => { s with classes := s.classes.put c { s.classes.get c with classRefusals := 0 } }
  | .requestsTaken p => { s with ports := s.ports.put p { s.ports.get p with requestsTaken := 0 } }
  | .requestsRefused p => { s with ports := s.ports.put p { s.ports.get p with requestsRefused := 0 } }
  | .protocolFaults p => { s with ports := s.ports.put p { s.ports.get p with protocolFaults := 0 } }
  | .timeouts => { s with mem := { s.mem with timeouts := 0 } }
  | .lateDiscarded => { s with mem := { s.mem with lateDiscarded := 0 } }
  | .unexpectedResponses => { s with mem := { s.mem with unexpectedResponses := 0 } }
  | .memoryErrors => { s with mem := { s.mem with memoryErrors := 0 } }

end Sys2Proof.Machine
end

