-- ==== Sys2Proof/Machine/Ops.lean ====
section
/-! DEFINITION. Machine/Ops.lean: the operations that the commands share, block by block: the request
store's views and removals (chapter 1), budgets (chapter 2), the arbiter's ring and tenure (chapter 3), the
starvation monitor (chapter 4), host ports (chapter 7), the memory port (chapter 8) and the taking of
a management word (chapter 10). -/

namespace Sys2Proof.Machine

/-! ## Updates of one part of the state -/

/-- Port `p` changed by `f`. -/
def State.updPort (s : State) (p : Port) (f : PortRec → PortRec) : State :=
  { s with ports := s.ports.put p (f (s.ports.get p)) }

/-- Class `c` changed by `f`. -/
def State.updClass (s : State) (c : ClassId) (f : ClassRec → ClassRec) : State :=
  { s with classes := s.classes.put c (f (s.classes.get c)) }

/-- Every port changed by `f`. -/
def State.updPorts (s : State) (f : Port → PortRec → PortRec) : State :=
  { s with ports := .build fun p => f p (s.ports.get p) }

/-- Every class changed by `f`. -/
def State.updClasses (s : State) (f : ClassId → ClassRec → ClassRec) : State :=
  { s with classes := .build fun c => f c (s.classes.get c) }

/-- The arbiter changed by `f`. -/
def State.updArb (s : State) (f : Arbiter → Arbiter) : State := { s with arb := f s.arb }

/-- The epoch timer changed by `f`. -/
def State.updEpoch (s : State) (f : EpochTimer → EpochTimer) : State := { s with epoch := f s.epoch }

/-- The flow table changed by `f`. -/
def State.updFlow (s : State) (f : FlowTable → FlowTable) : State := { s with flow := f s.flow }

/-- The memory port changed by `f`. -/
def State.updMem (s : State) (f : MemPort → MemPort) : State := { s with mem := f s.mem }

/-- The management link changed by `f`. -/
def State.updMgmt (s : State) (f : MgmtLink → MgmtLink) : State := { s with mgmt := f s.mgmt }

/-- Group `g` changed by `f`. -/
def State.updGroup (s : State) (g : GroupId) (f : GroupRec → GroupRec) : State :=
  { s with groups := s.groups.put g (f (s.groups.get g)) }

/-- The pins changed by `f`. -/
def State.updPins (s : State) (f : Pins → Pins) : State := { s with pins := f s.pins }

/-! ## The request store: chains, queues and head conditions (chapter 1) -/

/-- The class queue of `c`, head first (R8). -/
def State.queue (s : State) (c : ClassId) : List StoreEntry := s.held.filter (·.cls = c)

/-- The stream chain of port `p` and stream `n`, first entry first (R6). -/
def State.chain (s : State) (p : Port) (n : Stream) : List StoreEntry :=
  s.held.filter fun e => e.port = p ∧ e.stream = n

/-- An entry is order-eligible when it is first in its chain (R6). -/
def State.orderEligible (s : State) (e : StoreEntry) : Bool :=
  (s.chain e.port e.stream).head? == some e

/-- The head condition of a class (R9). -/
inductive HeadCondition where
  | empty
  | blocked
  | ready
deriving DecidableEq, Repr

/-- The head condition that the store presents for class `c` (R9). -/
def State.headCondition (s : State) (c : ClassId) : HeadCondition :=
  match s.queue c with
  | [] => .empty
  | e :: _ => if s.orderEligible e then .ready else .blocked

/-- The store entries of port `p`: HELD and ISSUING (R1, R106). -/
def State.storeEntries (s : State) (p : Port) : Nat :=
  (s.held.filter (·.port = p)).length + (s.issuing.toList.filter (·.port = p)).length

/-! ## Budgets (chapter 2) -/

/-- A metered mode: any but UNMETERED (R21). -/
def Mode.metered : Mode → Bool
  | .unmetered => false
  | _ => true

/-- A class is budget-eligible (R22). -/
def ClassRec.budgetEligible (k : ClassRec) : Bool := !k.mode.metered || 0 < k.budget

/-- B after a setting to `share` that carries debt (R27, R29).  Where R33 speaks of two full refills in one
moment it says that both orders end at A, because the second finds B at or above 0; by R27 a debt of more
than A leaves B below 0 after the first (A = 4, B = -7: -3, then 1).  DEDUCED (log 22): R27 is followed. -/
def refilled (share : Nat) (b : Int) : Int := if b < 0 then share + b else share

/-- The boundary share of a HALVED class, A - ⌊A/2⌋ (R29). -/
def boundaryShare (a : Nat) : Nat := a - a / 2

/-- A full refill (R27). -/
def ClassRec.fullRefill (k : ClassRec) : ClassRec := { k with budget := refilled k.allowance k.budget }

/-- The boundary refill of a HALVED class (R29). -/
def ClassRec.boundaryRefill (k : ClassRec) : ClassRec :=
  { k with budget := refilled (boundaryShare k.allowance) k.budget }

/-- The mid-epoch refill of a HALVED class: an addition that stops at A (R29). -/
def ClassRec.midRefill (k : ClassRec) : ClassRec :=
  { k with budget := min (k.budget + (k.allowance / 2 : Nat)) k.allowance }

/-- B as entering a mode sets it, debt dropped: A, or the boundary share in HALVED mode (R30, R42). -/
def entryBudget (m : Mode) (a : Nat) : Int :=
  match m with
  | .halved => boundaryShare a
  | _ => a

/-! ## The starvation monitor (chapter 4) -/

/-- The escape-pending mark of class `c`: its membership of the escape list (R60). -/
def State.marked (s : State) (c : ClassId) : Bool := s.escapeList.contains c

/-- The condition of a wait clock (R60). -/
inductive ClockCondition where
  | running
  | paused
  | stopped
deriving DecidableEq, Repr

/-- The condition of class `c`'s wait clock, from its four facts (R61). -/
def State.clockCondition (s : State) (c : ClassId) : ClockCondition :=
  if (s.queue c).isEmpty || (s.classes.get c).activeWait == 0 || (s.classes.get c).strikes == 2 then .stopped
  else if s.mem.link = .up then .running
  else .paused

/-- A restart of the wait clock: it goes to 0 and the written wait limit becomes active (R62). -/
def ClassRec.restartClock (k : ClassRec) : ClassRec := { k with clock := 0, activeWait := k.writtenWait }

/-- What an emptied queue does to its class: strikes 0 and the clock stopped at 0 (R66). -/
def ClassRec.stopClock (k : ClassRec) : ClassRec := { k with clock := 0, strikes := 0 }

/-- What the link's leaving of UP does to a class whose clock runs: a clock that has come to its limit, and whose
expiry has not been taken, is PAUSED one tick short of it (R68); any other keeps its value (R61). -/
def ClassRec.pauseClock (k : ClassRec) : ClassRec := { k with clock := min k.clock (k.activeWait - 1) }

/-- Every RUNNING clock becomes PAUSED (R61, R68). -/
def State.pauseClocks (s : State) : State :=
  { s with classes := .build fun c =>
      if s.clockCondition c = .running then (s.classes.get c).pauseClock else s.classes.get c }

/-- Class `c` leaves the escape list; those behind it close up (R60). -/
def State.unmark (s : State) (c : ClassId) : State :=
  { s with escapeList := s.escapeList.filter (· ≠ c) }

/-! ## Removal of HELD entries (R14, R16, R19, R66) -/

/-- Class `c`'s queue holds an entry before a removal of the entries `gone` and none after it. -/
def State.emptiedBy (s : State) (gone : StoreEntry → Bool) (c : ClassId) : Bool :=
  !(s.queue c).isEmpty && (s.queue c).all gone

/-- Every HELD entry that `gone` holds of leaves its queue and its chain; the others close up.  The
monitor treats each queue that becomes empty as R66 gives. -/
def State.removeHeld (s : State) (gone : StoreEntry → Bool) : State :=
  { s with
    held := s.held.filter (!gone ·)
    classes := .build fun c =>
      if s.emptiedBy gone c then (s.classes.get c).stopClock else s.classes.get c
    escapeList := s.escapeList.filter (!s.emptiedBy gone ·) }

/-! ## Host ports (chapter 7) -/

/-- The port answers its host: it is OPEN or CLOSING (R14, R19). -/
def PortState.serving : PortState → Bool
  | .opened => true
  | .closing => true
  | _ => false

/-- A response joins the tail of the queue (R117). -/
def PortRec.enqueue (k : PortRec) (r : Response) : PortRec := { k with queue := k.queue ++ [r] }

/-- `n` credits given: host credits and pending count rise together (R113, R76). -/
def PortRec.give (k : PortRec) (n : Nat) : PortRec :=
  { k with hostCredits := k.hostCredits + n, pendingCredits := k.pendingCredits + n }

/-- `n` credits returned for freed entries or a refusal: given while the port is OPEN, kept back in any
other state (R12, R101, R113). -/
def PortRec.returnCredits (k : PortRec) (n : Nat) : PortRec :=
  if k.state = .opened then k.give n else k

/-- A response placed on port `p`'s queue (R117). -/
def State.answer (s : State) (p : Port) (r : Response) : State := s.updPort p (·.enqueue r)

/-- The entry into OPEN: the port advertises its credit limit less its store entries and raises OPENED
(R113). -/
def State.enterOpen (s : State) (p : Port) : State :=
  (s.updPort p fun k =>
    { k with state := .opened }.give (k.creditLimit - s.storeEntries p)).raise (.port p .opened)

/-- Steps 3 to 5 of a port reset: response queue and outstanding-tag set emptied, a send in progress
abandoned, credits set to 0 (R109, R77). -/
def PortRec.clearTraffic (k : PortRec) : PortRec :=
  { k with queue := [], outstanding := [], upTx := .idle, hostCredits := 0, pendingCredits := 0 }

/-- An IN_FLIGHT entry of port `p` becomes ORPHAN and keeps its remaining time (R137). -/
def InFlight.orphaned (p : Port) : InFlight → InFlight
  | .inFlight r left => if r.port = p then .orphan r left else .inFlight r left
  | e => e

/-- Steps 1 to 5 of a port reset of `p`, shared by RESET_PORT (R109) and a link loss (R111). -/
def State.cutPort (s : State) (p : Port) : State :=
  (((s.removeHeld (·.port = p)).updMem fun m =>
    { m with table := .build fun t => (m.table.get t).orphaned p }).updPort p PortRec.clearTraffic)

/-! ## The memory port (chapter 8) -/

/-- The entry is FREE (R129). -/
def InFlight.isFree : InFlight → Bool
  | .free => true
  | _ => false

/-- The entry is LATE (R129). -/
def InFlight.isLate : InFlight → Bool
  | .late _ => true
  | _ => false

/-- The FREE tag with the lowest number (R55). -/
def MemPort.lowestFree (m : MemPort) : Option DTag :=
  (List.finRange 64).find? fun t => (m.table.get t).isFree

/-- The FREE tag count (R130). -/
def MemPort.freeCount (m : MemPort) : Nat :=
  ((List.finRange 64).filter fun t => (m.table.get t).isFree).length

/-- The LATE count (R136). -/
def MemPort.lateCount (m : MemPort) : Nat :=
  ((List.finRange 64).filter fun t => (m.table.get t).isLate).length

/-- The in-flight entry of tag `t` replaced. -/
def MemPort.putEntry (m : MemPort) (t : DTag) (e : InFlight) : MemPort :=
  { m with table := m.table.put t e }

/-- The requests that are IN_FLIGHT, in increasing order of downstream tag (R138). -/
def MemPort.inFlightRecords (m : MemPort) : List FlightRecord :=
  (List.finRange 64).filterMap fun t =>
    match m.table.get t with
    | .inFlight r _ => some r
    | _ => none

/-- The ABORTED response to a request (R75). -/
def abortedResponse (tag : HostTag) : Response := ⟨tag, .aborted⟩

/-- The ISSUING entry is freed and the D transmitter is idle: the end of a send (R12) or its
abandonment (R13).  The entry's port returns a credit if it is OPEN. -/
def State.freeIssuing (s : State) : State :=
  match s.issuing with
  | none => s.updMem fun m => { m with dTx := none }
  | some e =>
    { s.updPort e.port (·.returnCredits 1) with
      issuing := none
      mem := { s.mem with dTx := none } }

/-- Steps 2 to 5 of R138, shared by a memory link loss and a downstream reset (R139): RUNNING wait clocks are
PAUSED (R61), IN_FLIGHT entries are answered ABORTED in increasing order of tag, every entry becomes FREE, a send in progress is
abandoned and the credits become 0. -/
def State.clearDownstream (s : State) : State :=
  ((s.pauseClocks.updPorts fun p k =>
      { k with queue := k.queue ++
          (s.mem.inFlightRecords.filter (·.port = p)).map fun r => abortedResponse r.hostTag }).freeIssuing).updMem
    fun m => { m with table := .build fun _ => .free, credits := 0 }

/-- A downstream reset: the table, the send and the credits are cleared, the link state becomes TRAINING
and a retrain is requested (R139). -/
def State.resetDownstream (s : State) : State :=
  s.clearDownstream.updMem fun m => { m with link := .training, retrain := true }

/-! ## The arbiter (chapter 3) -/

/-- Class `c` taken out of its position and placed at position 7 (R48). -/
def moveLast (ring : List ClassId) (c : ClassId) : List ClassId := ring.filter (· ≠ c) ++ [c]

/-- The ring rotated cyclically so that class `c` stands at position 7 (R46). -/
def rotateLast (ring : List ClassId) (c : ClassId) : List ClassId :=
  (ring.dropWhile (· ≠ c)).tail ++ ring.takeWhile (· ≠ c) ++ [c]

/-- The end of a tenure: no holder, count 0, and in ROTATE mode the holder moves to position 7 (R52). -/
def Arbiter.endTenure (a : Arbiter) : Arbiter :=
  match a.holder with
  | none => a
  | some h =>
    { a with
      ring := match a.mode with
        | .fixed => a.ring
        | .rotate => moveLast a.ring h
      holder := none
      count := 0 }

/-! ## Taking a management word (R161 to R163) -/

/-- The part is out of reset: RST# is high (R166). -/
def State.awake (s : State) : Bool := !s.pins.rstLow

/-- A word of a WRITE frame arrives at the mapped word `w` (R161). -/
def State.writingAt (s : State) (w : MgmtWord) : Bool :=
  s.awake && s.mgmt.phase == .writing && s.mgmt.address == w.addr

/-- What a refused word records: REJECT is raised, and the frame's first refusal sets the frame failure
and LAST_REJECT (R163). -/
def State.refuseWord (s : State) (r : Reject) : State :=
  (s.raise (.device .reject)).updMgmt fun m =>
    match m.failure with
    | some _ => m
    | none => { m with failure := some (m.address, r), lastReject := some (m.address, r) }

/-- After a word the current address rises by 1, but stays at the COMMAND word (R161). -/
def MgmtLink.advance (m : MgmtLink) : MgmtLink :=
  if m.address = MgmtWord.command.addr then m else { m with address := m.address + 1 }

/-- A word is taken whole: its owner applies it or gives the reason of the refusal, and the address moves
on (R161, R162). -/
def State.takeWord (s : State) (own : State → Except Reject State) : State :=
  match own s with
  | .ok t => t.updMgmt MgmtLink.advance
  | .error r => (s.refuseWord r).updMgmt MgmtLink.advance

/-- The event of a written word at the mapped word `w`: it is an event only while a WRITE frame stands at
that word (R161); otherwise nothing is received there and nothing changes (log 2). -/
def State.writeWord (s : State) (w : MgmtWord) (own : State → Except Reject State) : State :=
  if s.writingAt w then s.takeWord own else s

/-- A check of a management word: the result is `t` where the check holds, else the refusal (R162). -/
def accept (ok : Bool) (why : Reject) (t : State) : Except Reject State :=
  if ok then .ok t else .error why

end Sys2Proof.Machine
end

