-- ==== Sys2Proof/Machine/Intake.lean ====
section
/-! DEFINITION. Machine/Intake.lean: the checks of an arriving request, the flow table lookup, the take
and the refusal (spec chapters 5 and 6). -/

namespace Sys2Proof.Machine

/-! ## Lookup (R93, R94) -/

/-- The last unit of a request (R93). -/
def lastUnit (unitAddr : UnitAddr) (length : Nat) : Nat := unitAddr.toNat + length - 1

/-- The Operation test of a flow entry (R93). -/
def Operation.admits : Operation → ReqKind → Bool
  | .any, _ => true
  | .read, .read => true
  | .write, .write => true
  | _, _ => false

/-- A flow entry matches a request of port `p` (R93). -/
def FlowEntry.matchesRequest (e : FlowEntry) (p : Port) (kind : ReqKind) (k : HostPacket) : Bool :=
  e.valid && e.portSet.getLsbD p.val
    && (e.streamLow.toNat ≤ k.stream.toNat && k.stream.toNat ≤ e.streamHigh.toNat)
    && e.operation.admits kind
    && (!e.windowPresent ||
      (e.base.toNat ≤ k.unitAddr.toNat && lastUnit k.unitAddr k.length ≤ e.limit.toNat))

/-- The entries of a bank in increasing index. -/
def bankEntries (b : Table 24 FlowEntry) : List FlowEntry := (List.finRange 24).map b.get

/-- The result of lookup: the Action of the matching valid entry with the lowest index in the active bank,
else the port's default (R94). -/
def State.lookup (s : State) (p : Port) (kind : ReqKind) (k : HostPacket) : Action :=
  match (bankEntries (s.flow.banks.get s.flow.active)).find? (·.matchesRequest p kind k) with
  | some e => e.action
  | none => (s.ports.get p).defaultAction

/-! ## The intake checks (R95 to R100) -/

/-- The outcome of the intake checks: a refusal, with the class it counts against (R98, R101), or a take
into a class. -/
inductive Verdict where
  | refuse (reason : RefusalReason) (cls : Option ClassId)
  | take (c : ClassId)
deriving DecidableEq, Repr

/-- The page of a unit (R96). -/
def pageOf (unit : Nat) : Nat := unit / Config.unitsPerPage

/-- Step 2: the form of a request (R96). -/
def HostPacket.wellFormed (k : HostPacket) (kind : ReqKind) : Bool :=
  k.wholeHeader && (1 ≤ k.length && k.length ≤ 8)
    && k.payloadBytes == expectedPayload kind k.length
    && pageOf k.unitAddr.toNat == pageOf (lastUnit k.unitAddr k.length)

/-- Step 3: the request lies within the memory limit (R97). -/
def State.withinLimit (s : State) (k : HostPacket) : Bool :=
  lastUnit k.unitAddr k.length < s.flow.memLimit * Config.unitsPerMiB

/-- Steps 2 to 7 of an arrival, in order; the first check that fails decides (R95). -/
def State.intake (s : State) (p : Port) (kind : ReqKind) (k : HostPacket) : Verdict :=
  if !k.wellFormed kind then .refuse .malformed none
  else if !s.withinLimit k then .refuse .range none
  else match s.lookup p kind k with
    | .deny => .refuse .denied none
    | .cls c =>
      if !(s.classes.get c).admitOn then .refuse .classOff (some c)
      else if (s.classes.get c).depthLimit ≤ (s.queue c).length then .refuse .classFull (some c)
      else .take c

/-! ## Outcomes of an arrival -/

/-- Step 1, the three checks of R74 in order: a credit that a CREDIT message has begun to carry, a request
kind, and a tag that is not outstanding.  The result is the operation requested, or none where a check
fails. -/
def PortRec.admits (port : PortRec) (k : HostPacket) : Option ReqKind :=
  if port.pendingCredits < port.hostCredits then
    match requestKind k.kind with
    | none => none
    | some kind => if port.outstanding.contains k.hostTag then none else some kind
  else none

/-- A packet that fails step 1 is discarded: FAULT and one protocol fault (R74, R116). -/
def State.discardPacket (s : State) (p : Port) : State :=
  (s.updPort p fun k => { k with protocolFaults := bump k.protocolFaults 1 }).raise (.port p .fault)

/-- A packet that passes step 1 consumes one credit and its tag becomes outstanding (R74). -/
def PortRec.admitTag (k : PortRec) (tag : HostTag) : PortRec :=
  { k with hostCredits := k.hostCredits - 1, outstanding := k.outstanding ++ [tag] }

/-- The class side of a refusal: CLASS_OFF and CLASS_FULL count against the class, and CLASS_FULL raises
FULL (R101). -/
def State.refuseInClass (s : State) (reason : RefusalReason) (c : ClassId) : State :=
  let counted := s.updClass c fun k => { k with classRefusals := bump k.classRefusals 1 }
  match reason with
  | .classFull => counted.raise (.cls c .full)
  | _ => counted

/-- A refusal at steps 2 to 6 (R101). -/
def State.refuseRequest (s : State) (p : Port) (tag : HostTag) (reason : RefusalReason)
    (cls : Option ClassId) : State :=
  let answered := (s.updPort p fun k =>
    ({ k with requestsRefused := bump k.requestsRefused 1 }.enqueue ⟨tag, .refused reason⟩).returnCredits 1).raise
      (.port p .refusal)
  match cls with
  | some c => answered.refuseInClass reason c
  | none => answered

/-- The store entry of a taken request (R2, R102): a READ carries no data. -/
def storeEntryOf (p : Port) (kind : ReqKind) (k : HostPacket) (c : ClassId) : StoreEntry where
  port := p
  hostTag := k.hostTag
  stream := k.stream
  kind := kind
  unitAddr := k.unitAddr
  length := k.length
  data := k.payload
  cls := c

/-- The store takes a request: it joins the tails of its queue and its chain, and a queue that was empty
restarts its class's wait clock (R5, R62). -/
def State.storeTake (s : State) (e : StoreEntry) : State :=
  let joined := { s with held := s.held ++ [e] }
  if (s.queue e.cls).isEmpty then joined.updClass e.cls ClassRec.restartClock else joined

/-- A request that passes every check is taken (R102). -/
def State.takeRequest (s : State) (e : StoreEntry) : State :=
  (s.storeTake e).updPort e.port fun k => { k with requestsTaken := bump k.requestsTaken 1 }

/-- The arrival event of a packet at port `p` (R95). -/
def State.arrive (s : State) (p : Port) (k : HostPacket) : State :=
  match (s.ports.get p).admits k with
  | none => s.discardPacket p
  | some kind =>
    let admitted := s.updPort p (·.admitTag k.hostTag)
    match s.intake p kind k with
    | .refuse reason cls => admitted.refuseRequest p k.hostTag reason cls
    | .take c => admitted.takeRequest (storeEntryOf p kind k c)

end Sys2Proof.Machine
end

