-- ==== Sys2Proof/Machine/HostPort.lean ====
section
/-! DEFINITION. Machine/HostPort.lean: the events of the host links: a packet's arrival, link up, link
lost, and the sends of the upstream transmitter (spec chapters 5 to 7). -/

namespace Sys2Proof.Machine

/-- ARRIVAL_EVENT (R95).  A packet arrives only while the port's link is up (R71). -/
def execArrivalEvent (p : Port) (packet : List Byte) (s : State) : Host.Outcome State Fault Refusal :=
  .next (if s.awake && (s.ports.get p).linkUp then s.arrive p (readHostPacket packet) else s)

/-- PORT_LINK_UP (R110): a WAITING port enters OPEN, a CLOSED port stays CLOSED with its link up.  In the
other states no link up is reported. -/
def State.portLinkUp (s : State) (p : Port) : State :=
  let up := s.updPort p fun k => { k with linkUp := true, retrain := false }
  match (s.ports.get p).state with
  | .waiting => up.enterOpen p
  | .closed => up
  | _ => s

/-- PORT_LINK_UP (R110).  It is reported only for a link that is not up. -/
def execPortLinkUp (p : Port) (s : State) : Host.Outcome State Fault Refusal :=
  .next (if s.awake && !(s.ports.get p).linkUp then s.portLinkUp p else s)

/-- The state of a port after the loss of its link (R111). -/
def PortState.afterLoss : PortState → PortState
  | .opened => .waiting
  | .closing => .closed
  | st => st

/-- The link of port `p` is lost (R111): LINK_LOST, steps 1 to 5 of R109, and CLOSED where the port enters
CLOSED from CLOSING. -/
def State.portLinkLost (s : State) (p : Port) : State :=
  let lost := ((s.cutPort p).updPort p fun k =>
    { k with linkUp := false, state := k.state.afterLoss }).raise (.port p .linkLost)
  if (s.ports.get p).state = .closing then lost.raise (.port p .closed) else lost

/-- PORT_LINK_LOST (R111).  It is reported only for a link that is up. -/
def execPortLinkLost (p : Port) (s : State) : Host.Outcome State Fault Refusal :=
  .next (if s.awake && (s.ports.get p).linkUp then s.portLinkLost p else s)

/-- The choice of an idle upstream transmitter: a CREDIT message with the whole pending count, else the
response at the head of the queue, else nothing (R77). -/
def PortRec.beginSend (k : PortRec) : PortRec :=
  if 0 < k.pendingCredits then { k with upTx := .credit k.pendingCredits, pendingCredits := 0 }
  else if k.queue.isEmpty then k
  else { k with upTx := .response }

/-- UPSTREAM_SEND_BEGIN (R77).  A send begins only while the link is up and the transmitter is idle. -/
def execUpstreamSendBegin (p : Port) (s : State) : Host.Outcome State Fault Refusal :=
  .next (if s.awake && (s.ports.get p).linkUp && (s.ports.get p).upTx == .idle then
    s.updPort p PortRec.beginSend else s)

/-- CREDIT_SEND_END (R77): the transmitter is idle.  Only a CREDIT message in progress can end. -/
def execCreditSendEnd (p : Port) (s : State) : Host.Outcome State Fault Refusal :=
  .next (match (s.ports.get p).upTx with
    | .credit _ => if s.awake then s.updPort p fun k => { k with upTx := .idle } else s
    | _ => s)

/-- The response at the head leaves the queue, its tag leaves the outstanding-tag set and the transmitter is
idle (R118, R77). -/
def PortRec.finishResponse (k : PortRec) : PortRec :=
  match k.queue with
  | [] => { k with upTx := .idle }
  | r :: rest => { k with upTx := .idle, queue := rest, outstanding := k.outstanding.erase r.hostTag }

/-- The end of a response's send at port `p` (R118): a CLOSING port whose outstanding-tag set is now empty
enters CLOSED, its host credits become 0 and CLOSED is raised. -/
def State.responseSent (s : State) (p : Port) : State :=
  let sent := s.updPort p PortRec.finishResponse
  if (sent.ports.get p).state = .closing && (sent.ports.get p).outstanding.isEmpty then
    (sent.updPort p fun k => { k with state := .closed, hostCredits := 0 }).raise (.port p .closed)
  else sent

/-- RESPONSE_SEND_END (R118).  Only a response in progress can end. -/
def execResponseSendEnd (p : Port) (s : State) : Host.Outcome State Fault Refusal :=
  .next (match (s.ports.get p).upTx with
    | .response => if s.awake then s.responseSent p else s
    | _ => s)

/-- The bytes of the packet that port `p` is sending upstream (R75, R76, R83). -/
def PortRec.sending (k : PortRec) : Option (List Byte) :=
  match k.upTx with
  | .idle => none
  | .credit n => some (hostCreditBytes n)
  | .response => k.queue.head?.map Response.bytes

end Sys2Proof.Machine
end

