-- ==== Sys2Proof/Machine/Link.lean ====
section
/-! DEFINITION. Machine/Link.lean: the frames of the management link (R158 to R160), what each word of the
management space reads as (R168, R169), and the claim and snapshot-slot reads (R149, R150, R156). -/

namespace Sys2Proof.Machine

/-! ## What a word reads as (R169) -/

/-- A flag and a count that are shown for the tenure holder alone (R57, R154). -/
def State.holdsTenure (s : State) (c : ClassId) : Bool := s.arb.holder == some c

/-- The tenure count as class `c` shows it: 0 unless the class holds the tenure (R154, R57). -/
def State.tenureCountOf (s : State) (c : ClassId) : Nat := if s.holdsTenure c then s.arb.count else 0

/-- DEVICE_CONFIG: the written exponent and the arbitration mode (R167). -/
def State.deviceConfigWord (s : State) : Nat :=
  field s.epoch.writtenExp 0 5 + flagBit (s.arb.mode == .rotate) 8

/-- STATUS word 0 (R168, R169). -/
def State.status0Word (s : State) : Nat :=
  field s.mem.link.code 0 2 + field s.mem.announced 2 6 + field s.mem.credits 8 6
    + field s.mem.freeCount 14 7 + field s.mem.lateCount 21 7 + field s.flow.active.val 28 1

/-- LAST_REJECT (R163, R169). -/
def MgmtLink.lastRejectWord (m : MgmtLink) : Nat :=
  match m.lastReject with
  | none => 0
  | some (a, r) => field a.toNat 0 16 + field r.code 16 2

/-- PORT_STATE (R122, R169). -/
def PortRec.stateWord (k : PortRec) : Nat := field k.state.code 0 3 + flagBit k.linkUp 3

/-- PORT_CREDITS (R122, R169). -/
def PortRec.creditsWord (k : PortRec) : Nat := field k.hostCredits 0 7 + field k.pendingCredits 8 7

/-- PORT_LOAD (R122, R169). -/
def State.portLoadWord (s : State) (p : Port) : Nat :=
  field (s.storeEntries p) 0 7 + field (s.ports.get p).outstanding.length 8 6
    + field (s.ports.get p).queue.length 16 6

/-- CLASS_STATE (R57, R69, R169). -/
def State.classStateWord (s : State) (c : ClassId) : Nat :=
  field (s.queue c).length 0 8 + field (s.classes.get c).strikes.val 8 2 + flagBit (s.marked c) 10
    + flagBit (s.holdsTenure c) 11 + field (s.tenureCountOf c) 12 5

/-- The four words of a flow entry (R88, R169); bit 31 of words 1 and 2 reads as 0 (R89). -/
def FlowEntry.word (e : FlowEntry) (k : Fin 4) : Nat :=
  match k with
  | 0 => field e.streamLow.toNat 0 4 + field e.streamHigh.toNat 4 4
  | 1 => field e.base.toNat 0 31
  | 2 => field e.limit.toNat 0 31
  | 3 => flagBit e.valid 0 + flagBit e.windowPresent 1 + field e.operation.code 2 2
      + field e.portSet.toNat 4 4 + field e.action.code 8 4

/-- The kind of a request in the in-flight view: 0 READ, 1 WRITE (R169). -/
def ReqKind.viewCode : ReqKind → Nat
  | .read => 0
  | .write => 1

/-- Word 0 of an in-flight record under a state code (R169). -/
def FlightRecord.viewWord (r : FlightRecord) (code : Nat) : Nat :=
  field code 0 2 + field r.port.val 2 2 + field r.hostTag.toNat 4 5 + field r.kind.viewCode 9 1
    + field r.length 10 4 + field r.cls.val 14 3

/-- Word 0 of the in-flight view: a FREE entry reads with every field but State as 0 (R142, R169). -/
def InFlight.word0 : InFlight → Nat
  | .free => 0
  | .inFlight r _ => r.viewWord 1
  | .orphan r _ => r.viewWord 2
  | .late r => r.viewWord 3

/-- Word 1 of the in-flight view: the remaining time, 0 where absent (R142, R169).  A time that has come to 0 is
shown as 1, its value before the timeout, until the timeout is taken: a read returns the values before that
event or after it. -/
def InFlight.word1 : InFlight → Nat
  | .inFlight _ (some n) => field (max n 1) 0 16
  | .orphan _ (some n) => field (max n 1) 0 16
  | _ => 0

/-- The four words of a snapshot slot: a FREE slot reads 0 throughout (R154, R169). -/
def slotWord (slot : Option Snapshot) (k : Fin 4) : Word :=
  match slot with
  | none => 0
  | some v =>
    match k with
    | 0 => BitVec.ofInt 32 v.budget
    | 1 => BitVec.ofNat 32 v.queueLength
    | 2 => BitVec.ofNat 32 (field v.strikes.val 0 2 + flagBit v.mark 2 + flagBit v.tenureFlag 3
        + field v.tenureCount 4 5 + flagBit true 31)
    | 3 => v.epochCounter

/-- What a mapped word reads as (R169).  COMMAND is write-only and reads 0 (R160). -/
def State.wordValue (s : State) : MgmtWord → Word
  | .identity => 0x01000440
  | .deviceConfig => BitVec.ofNat 32 s.deviceConfigWord
  | .status0 => BitVec.ofNat 32 s.status0Word
  | .status1 => s.epoch.counter
  | .memLimit => BitVec.ofNat 32 s.flow.memLimit
  | .timeout => BitVec.ofNat 32 s.mem.timeout
  | .quarantineLevel => BitVec.ofNat 32 s.mem.quarantineLevel
  | .ring => BitVec.ofNat 32 (wordOfRing s.arb.ring)
  | .command => 0
  | .lastReject => BitVec.ofNat 32 s.mgmt.lastRejectWord
  | .portState p => BitVec.ofNat 32 (s.ports.get p).stateWord
  | .creditLimit p => BitVec.ofNat 32 (s.ports.get p).creditLimit
  | .defaultClass p => BitVec.ofNat 32 (s.ports.get p).defaultAction.code
  | .portCredits p => BitVec.ofNat 32 (s.ports.get p).creditsWord
  | .portLoad p => BitVec.ofNat 32 (s.portLoadWord p)
  | .mode c => BitVec.ofNat 32 (s.classes.get c).mode.code
  | .allowance c => BitVec.ofNat 32 (s.classes.get c).allowance
  | .budget c => BitVec.ofInt 32 (s.classes.get c).budget
  | .admitOn c => BitVec.ofNat 32 (flagBit (s.classes.get c).admitOn 0)
  | .depthLimit c => BitVec.ofNat 32 (s.classes.get c).depthLimit
  | .tenureLimit c => BitVec.ofNat 32 (s.classes.get c).tenureLimit
  | .waitLimit c => BitVec.ofNat 32 (s.classes.get c).writtenWait
  | .classState c => BitVec.ofNat 32 (s.classStateWord c)
  | .flowEntry b i k => BitVec.ofNat 32 (((s.flow.banks.get b).get i).word k)
  | .inFlight t false => BitVec.ofNat 32 (s.mem.table.get t).word0
  | .inFlight t true => BitVec.ofNat 32 (s.mem.table.get t).word1
  | .slot c k => slotWord (s.classes.get c).slot k
  | .counter n => BitVec.ofNat 32 (s.counter n)
  | .claim g => (s.groups.get g).flags.zeroExtend 32
  | .peek g => (s.groups.get g).flags.zeroExtend 32
  | .enable g => (s.groups.get g).enables.zeroExtend 32
  | .causeSummary => BitVec.ofNat 32 s.causeSummary

/-- What an address reads as: an unmapped address reads 0 (R160). -/
def State.readAt (s : State) (a : Addr) : Word :=
  match decodeAddr a with
  | some w => s.wordValue w
  | none => 0

/-! ## Captures (R149, R160) -/

/-- The word at the current address is captured for shifting out; the capture of a claim word forms its
group's claimed set (R160, R149). -/
def State.captureWord (s : State) : State :=
  let captured := s.updMgmt fun m => { m with readWord := s.readAt m.address }
  match decodeAddr s.mgmt.address with
  | some (.claim g) => captured.captureClaim g
  | _ => captured

/-- The frame reads on: the word at address `a` is captured (R160). -/
def State.captureAt (s : State) (a : Addr) : State :=
  (s.updMgmt fun m => { m with address := a }).captureWord

/-! ## Frames (R158, R159) -/

/-- The status byte: the status result, the level of ALERT# and the pattern 01010 (R159). -/
def State.statusByteNow (s : State) : Byte :=
  BitVec.ofNat 8 (field (rejectCode s.mgmt.result) 0 2 + flagBit s.alert 2 + field 0b01010 3 5)

/-- A frame opens: the phase goes to OPCODE and the status byte is captured (R158, R159). -/
def State.openFrame (s : State) : State :=
  s.updMgmt fun m => { m with phase := .opcode, statusByte := s.statusByteNow }

/-- CS_FALL (R159).  While RST# is low SPI frames are ignored (R166): only the level of CS changes.  A CS
that is already low does not fall. -/
def execCsFall (s : State) : Host.Outcome State Fault Refusal :=
  .next (if s.pins.csLow then s
    else
      let fallen := s.updPins fun k => { k with csLow := true }
      if s.awake then fallen.openFrame else fallen)

/-- A full opcode byte: 0x61 selects a READ frame, 0x62 a WRITE frame, any other VOID (R158). -/
def MgmtLink.takeOpcode (m : MgmtLink) (b : Byte) : MgmtLink :=
  if b = 0x61 then { m with phase := .address, kind := some .read }
  else if b = 0x62 then { m with phase := .address, kind := some .write }
  else { m with phase := .void }

/-- OPCODE_BYTE (R158).  It is received only in the OPCODE phase. -/
def execOpcodeByte (b : Byte) (s : State) : Host.Outcome State Fault Refusal :=
  .next (if s.awake && s.mgmt.phase == .opcode then s.updMgmt (·.takeOpcode b) else s)

/-- The last address bit: the current address is set and the frame reads, with its first word captured, or
writes (R158, R160). -/
def State.takeAddress (s : State) (a : Addr) : State :=
  match s.mgmt.kind with
  | some .read => (s.updMgmt fun m => { m with phase := .reading, readStart := a }).captureAt a
  | some .write => s.updMgmt fun m => { m with phase := .writing, address := a }
  | none => s

/-- LAST_ADDRESS_BIT (R158).  It is received only in the ADDRESS phase. -/
def execLastAddressBit (a : Addr) (s : State) : Host.Outcome State Fault Refusal :=
  .next (if s.awake && s.mgmt.phase == .address then s.takeAddress a else s)

/-- The end of a WRITE frame settles the status result, and the frame failure returns to none (R163). -/
def MgmtLink.settle (m : MgmtLink) : MgmtLink :=
  match m.kind with
  | some .write => { m with result := m.failure.map Prod.snd, failure := none }
  | _ => m

/-- The frame ends: a claim in progress is abandoned (R150), a WRITE frame settles its result, the phase
returns to IDLE and the frame kind to none (R158). -/
def State.closeFrame (s : State) : State :=
  s.abandonClaim.updMgmt fun m => { m.settle with phase := .idle, kind := none }

/-- CS_RISE (R158).  While RST# is low only the level of CS changes.  A CS that is high does not rise. -/
def execCsRise (s : State) : Host.Outcome State Fault Refusal :=
  .next (if s.pins.csLow then
    let risen := s.updPins fun k => { k with csLow := false }
    if s.awake then risen.closeFrame else risen
  else s)

/-! ## What the part shifts out (R158 to R161) -/

/-- What SDO carries at bit `n` of the byte, address or word in progress (in VOID, of what follows the opcode), bit 0
being the first, the most significant: `none` is high impedance (R158, R166).  The status byte comes out during
the opcode (R159), the captured word in READING (R160), and 0 bits in WRITING (R161) and in VOID (R158).  The
manual states nothing for ADDRESS, nor for the rest of a frame that is ignored because CS was low at
the release of RST#, where the phase is IDLE (R166): a free value (DESIGN CHOICE, log 23). -/
def State.sdo (s : State) (n : Nat) : Option Bool :=
  if s.awake && s.pins.csLow then
    match s.mgmt.phase with
    | .opcode => some (s.mgmt.statusByte.getMsbD n)
    | .reading => some (s.mgmt.readWord.getMsbD n)
    | .writing => some false
    | .void => some false
    | .address => Config.unstatedSdo s.freeIndex n
    | .idle => Config.unstatedSdo s.freeIndex n
  else none

/-! ## Reading on (R160), claim words (R149) and snapshot slots (R156)

The last bit of three kinds of word is an event of the table: a claim word (CLAIM_COMPLETION), the word before a
claim word, after which the claim word is captured (CLAIM_CAPTURE), and the word that completes the four words
of a snapshot slot (SNAPSHOT_SLOT_READ).  Every other word is read, when a base tick says so, with no effect
but the next capture (log 10). -/

/-- The frame is reading and no claim word is being shifted out. -/
def State.readingFreely (s : State) : Bool :=
  s.awake && s.mgmt.phase == .reading && s.mgmt.claiming.isNone

/-- The word of slot `c` that is the last of the four to complete in a frame that began at `start` (R156): word 3,
or, for a frame that began inside the slot and came round the whole space, the word before its first. -/
def slotLast (start : Addr) (c : ClassId) : Addr :=
  if start = (MgmtWord.slot c 1).addr ∨ start = (MgmtWord.slot c 2).addr ∨ start = (MgmtWord.slot c 3).addr then
    start - 1
  else (MgmtWord.slot c 3).addr

/-- The word before the claim word of group `g`: when it completes, the claim word is captured (R160). -/
def beforeClaim (g : GroupId) : Addr := (MgmtWord.claim g).addr - 1

/-- The words whose last bit is an event of the table, in a frame that began at `start`, the claim words apart. -/
def eventWords (start : Addr) : List Addr :=
  (List.finRange 8).map (slotLast start) ++ (List.finRange 14).map beforeClaim

/-- Of the event words of the frame in progress, `e` is the next that the frame completes: none is nearer, going up
from the current address with the wrap of R160. -/
def State.comesNext (s : State) (e : Addr) : Bool :=
  (eventWords s.mgmt.readStart).all fun f => e - s.mgmt.address ≤ f - s.mgmt.address

/-- CLAIM_CAPTURE (R149): the READ frame completes the word before the claim word of group `g` and captures the
claim word.  A claim word that is being shifted out has been captured already (by the last address bit
where it is the first word of the frame), and the frame cannot pass over another event word: there
nothing changes. -/
def execClaimCapture (g : GroupId) (s : State) : Host.Outcome State Fault Refusal :=
  .next (if s.readingFreely && s.comesNext (beforeClaim g) then s.captureAt (beforeClaim g + 1) else s)

/-- CLAIM_COMPLETION (R149): the claimed flags are cleared, the current address rises by 1 and the word there
is captured (R160). -/
def execClaimCompletion (s : State) : Host.Outcome State Fault Refusal :=
  .next (if s.awake && s.mgmt.phase == .reading then
    match s.mgmt.claiming with
    | some g => (s.completeClaim g).captureAt (s.mgmt.address + 1)
    | none => s
  else s)

/-- SNAPSHOT_SLOT_READ (R156): the READ frame completes the last of the four words of slot `c`; the slot becomes
FREE and the frame reads on (R160).  Where the frame has another event word before it, nothing changes. -/
def execSnapshotSlotRead (c : ClassId) (s : State) : Host.Outcome State Fault Refusal :=
  .next (if s.readingFreely && s.comesNext (slotLast s.mgmt.readStart c) then
    (s.updClass c fun k => { k with slot := none }).captureAt (slotLast s.mgmt.readStart c + 1)
  else s)

/-- The event of the table at the last bit of the word in progress, if there is one. -/
def State.wordEndEvent (s : State) : Option Instr :=
  match s.mgmt.claiming with
  | some _ => some .claimCompletion
  | none =>
    match (List.finRange 8).find? fun c => slotLast s.mgmt.readStart c = s.mgmt.address with
    | some c => some (.snapshotSlotRead c)
    | none => ((List.finRange 14).find? fun g => beforeClaim g = s.mgmt.address).map .claimCapture

/-- The last bit of the word in progress is shifted out in the microsecond of this base tick. -/
def State.wordEnds (s : State) : Bool := s.mgmt.phase == .reading && Config.wordEnds s.freeIndex

/-- A READ frame at a base tick: where a word whose end is no event of the table is complete, the current address
rises by 1 and the word there is captured (R160). -/
def State.readTick (s : State) : State :=
  if s.wordEnds && s.wordEndEvent.isNone then s.captureAt (s.mgmt.address + 1) else s

/-- The event that the end of the word in progress brings at this base tick. -/
def State.readDue (s : State) : List Instr := if s.wordEnds then s.wordEndEvent.toList else []

end Sys2Proof.Machine
end

