-- ==== Sys2Proof/Machine/Writes.lean ====
section
/-! DEFINITION. Machine/Writes.lean: the words that configure the part: for each, the owner's checks and
its effect, and the command that brings it (spec chapters 2 to 10). -/

namespace Sys2Proof.Machine

/-! ## Classes -/

/-- The owner's part of a MODE word: the class enters the mode named, B is set without debt and the snapshot
slot is freed (R30). -/
def ownMode (c : ClassId) (w : Word) (s : State) : Except Reject State :=
  match modeOfCode w.toNat with
  | none => .error .badValue
  | some m => .ok (s.updClass c fun k =>
      { k with mode := m, budget := entryBudget m k.allowance, slot := none })

/-- MODE_WRITE (R30). -/
def execModeWrite (c : ClassId) (w : Word) (s : State) : Host.Outcome State Fault Refusal :=
  .next (s.writeWord (.mode c) (ownMode c w))

/-- The owner's part of an ALLOWANCE word: A is set and B is lowered to it if above (R31). -/
def ownAllowance (c : ClassId) (w : Word) (s : State) : Except Reject State :=
  accept (w.toNat ≤ 65535) .badValue (s.updClass c fun k =>
    { k with allowance := w.toNat, budget := min k.budget w.toNat })

/-- ALLOWANCE_WRITE (R31). -/
def execAllowanceWrite (c : ClassId) (w : Word) (s : State) : Host.Outcome State Fault Refusal :=
  .next (s.writeWord (.allowance c) (ownAllowance c w))

/-- The owner's part of a TENURE_LIMIT word (R53). -/
def ownTenureLimit (c : ClassId) (w : Word) (s : State) : Except Reject State :=
  accept (1 ≤ w.toNat && w.toNat ≤ 16) .badValue (s.updClass c fun k => { k with tenureLimit := w.toNat })

/-- TENURE_LIMIT_WRITE (R53). -/
def execTenureLimitWrite (c : ClassId) (w : Word) (s : State) : Host.Outcome State Fault Refusal :=
  .next (s.writeWord (.tenureLimit c) (ownTenureLimit c w))

/-- An accepted wait limit: 0 turns the monitor off for the class; a value written over an active limit of 0
becomes active at once; otherwise only the written limit changes (R67). -/
def State.setWaitLimit (s : State) (c : ClassId) (n : Nat) : State :=
  if n = 0 then
    (s.updClass c fun k => { k.stopClock with writtenWait := 0, activeWait := 0 }).unmark c
  else if (s.classes.get c).activeWait = 0 then
    s.updClass c fun k => { k with writtenWait := n, activeWait := n, clock := 0 }
  else s.updClass c fun k => { k with writtenWait := n }

/-- The owner's part of a WAIT_LIMIT word (R67). -/
def ownWaitLimit (c : ClassId) (w : Word) (s : State) : Except Reject State :=
  accept (w.toNat ≤ 65535) .badValue (s.setWaitLimit c w.toNat)

/-- WAIT_LIMIT_WRITE (R67). -/
def execWaitLimitWrite (c : ClassId) (w : Word) (s : State) : Host.Outcome State Fault Refusal :=
  .next (s.writeWord (.waitLimit c) (ownWaitLimit c w))

/-- The owner's part of an ADMIT word (R99). -/
def ownAdmit (c : ClassId) (w : Word) (s : State) : Except Reject State :=
  accept (w.toNat ≤ 1) .badValue (s.updClass c fun k => { k with admitOn := w.toNat == 1 })

/-- ADMIT_WRITE (R99). -/
def execAdmitWrite (c : ClassId) (w : Word) (s : State) : Host.Outcome State Fault Refusal :=
  .next (s.writeWord (.admitOn c) (ownAdmit c w))

/-- The owner's part of a DEPTH_LIMIT word (R100). -/
def ownDepthLimit (c : ClassId) (w : Word) (s : State) : Except Reject State :=
  accept (1 ≤ w.toNat && w.toNat ≤ 128) .badValue (s.updClass c fun k => { k with depthLimit := w.toNat })

/-- DEPTH_LIMIT_WRITE (R100). -/
def execDepthLimitWrite (c : ClassId) (w : Word) (s : State) : Host.Outcome State Fault Refusal :=
  .next (s.writeWord (.depthLimit c) (ownDepthLimit c w))

/-! ## Ports -/

/-- The owner's part of a DEFAULT_CLASS word (R94). -/
def ownDefaultClass (p : Port) (w : Word) (s : State) : Except Reject State :=
  match actionOfCode w.toNat with
  | none => .error .badValue
  | some a => .ok (s.updPort p fun k => { k with defaultAction := a })

/-- DEFAULT_CLASS_WRITE (R94). -/
def execDefaultClassWrite (p : Port) (w : Word) (s : State) : Host.Outcome State Fault Refusal :=
  .next (s.writeWord (.defaultClass p) (ownDefaultClass p w))

/-- The sum of the credit limits of the ports other than `p` (R114). -/
def State.otherLimits (s : State) (p : Port) : Nat :=
  (((List.finRange 4).filter (· ≠ p)).map fun q => (s.ports.get q).creditLimit).sum

/-- The owner's part of a CREDIT_LIMIT word: value, then port state, then sum (R114). -/
def ownCreditLimit (p : Port) (w : Word) (s : State) : Except Reject State :=
  if w.toNat = 0 ∨ Config.maxCreditLimit < w.toNat then .error .badValue
  else if (s.ports.get p).state.serving then .error .wrongState
  else if Config.creditSum < w.toNat + s.otherLimits p then .error .badValue
  else .ok (s.updPort p fun k => { k with creditLimit := w.toNat })

/-- CREDIT_LIMIT_WRITE (R114). -/
def execCreditLimitWrite (p : Port) (w : Word) (s : State) : Host.Outcome State Fault Refusal :=
  .next (s.writeWord (.creditLimit p) (ownCreditLimit p w))

/-! ## Device words -/

/-- The owner's part of a DEVICE_CONFIG word, checked whole (R167, R37, R48). -/
def ownDeviceConfig (w : Word) (s : State) : Except Reject State :=
  let n := bitsOf w.toNat 0 5
  accept (4 ≤ n && n ≤ 20) .badValue
    ((s.updEpoch fun e => { e with writtenExp := n }).updArb fun a =>
      { a with mode := if w.getLsbD 8 then .rotate else .fixed })

/-- DEVICE_CONFIG_WRITE (R167). -/
def execDeviceConfigWrite (w : Word) (s : State) : Host.Outcome State Fault Refusal :=
  .next (s.writeWord .deviceConfig (ownDeviceConfig w))

/-- The owner's part of a RING word (R47). -/
def ownRing (w : Word) (s : State) : Except Reject State :=
  match ringOfWord w with
  | none => .error .badValue
  | some ring => .ok (s.updArb fun a => { a with ring := ring })

/-- RING_WRITE (R47). -/
def execRingWrite (w : Word) (s : State) : Host.Outcome State Fault Refusal :=
  .next (s.writeWord .ring (ownRing w))

/-- The owner's part of a MEM_LIMIT word (R97). -/
def ownMemLimit (w : Word) (s : State) : Except Reject State :=
  accept (1 ≤ w.toNat && w.toNat ≤ 65536) .badValue (s.updFlow fun f => { f with memLimit := w.toNat })

/-- MEM_LIMIT_WRITE (R97). -/
def execMemLimitWrite (w : Word) (s : State) : Host.Outcome State Fault Refusal :=
  .next (s.writeWord .memLimit (ownMemLimit w))

/-- The owner's part of a TIMEOUT word (R131). -/
def ownTimeout (w : Word) (s : State) : Except Reject State :=
  accept (w.toNat ≤ 65535) .badValue (s.updMem fun m => { m with timeout := w.toNat })

/-- TIMEOUT_WRITE (R131). -/
def execTimeoutWrite (w : Word) (s : State) : Host.Outcome State Fault Refusal :=
  .next (s.writeWord .timeout (ownTimeout w))

/-- The owner's part of a QUARANTINE_LEVEL word (R136). -/
def ownQuarantineLevel (w : Word) (s : State) : Except Reject State :=
  accept (1 ≤ w.toNat && w.toNat ≤ 64) .badValue (s.updMem fun m => { m with quarantineLevel := w.toNat })

/-- QUARANTINE_LEVEL_WRITE (R136). -/
def execQuarantineLevelWrite (w : Word) (s : State) : Host.Outcome State Fault Refusal :=
  .next (s.writeWord .quarantineLevel (ownQuarantineLevel w))

/-! ## Flow entries (R88, R89) -/

/-- The entry with word `k` applied; `none` where the word's Operation or Action field names nothing
(R89 step 2).  Bit 31 of words 1 and 2 is ignored. -/
def FlowEntry.withWord (e : FlowEntry) (k : Fin 4) (w : Word) : Option FlowEntry :=
  match k with
  | 0 => some { e with
      streamLow := BitVec.ofNat 4 (bitsOf w.toNat 0 4)
      streamHigh := BitVec.ofNat 4 (bitsOf w.toNat 4 4) }
  | 1 => some { e with base := BitVec.ofNat 31 (bitsOf w.toNat 0 31) }
  | 2 => some { e with limit := BitVec.ofNat 31 (bitsOf w.toNat 0 31) }
  | 3 =>
    match operationOfCode (bitsOf w.toNat 2 2), actionOfCode (bitsOf w.toNat 8 4) with
    | some op, some act => some { e with
        valid := w.getLsbD 0
        windowPresent := w.getLsbD 1
        operation := op
        portSet := BitVec.ofNat 4 (bitsOf w.toNat 4 4)
        action := act }
    | _, _ => none

/-- A valid entry has its streams in order and, with a window, its window in order (R87, R89 step 3). -/
def FlowEntry.consistent (e : FlowEntry) : Bool :=
  !e.valid || (e.streamLow.toNat ≤ e.streamHigh.toNat
    && (!e.windowPresent || e.base.toNat ≤ e.limit.toNat))

/-- Entry `i` of bank `b` replaced. -/
def FlowTable.putEntry (f : FlowTable) (b : Bank) (i : EntryIdx) (e : FlowEntry) : FlowTable :=
  { f with banks := f.banks.put b ((f.banks.get b).put i e) }

/-- The owner's part of a flow entry word: bank, field values, consistency (R89). -/
def ownFlowEntry (b : Bank) (i : EntryIdx) (k : Fin 4) (w : Word) (s : State) : Except Reject State :=
  if b = s.flow.active then .error .wrongState
  else match ((s.flow.banks.get b).get i).withWord k w with
    | none => .error .badValue
    | some e => accept e.consistent .badValue (s.updFlow (·.putEntry b i e))

/-- FLOW_ENTRY_WRITE (R89). -/
def execFlowEntryWrite (b : Bank) (i : EntryIdx) (k : Fin 4) (w : Word) (s : State) :
    Host.Outcome State Fault Refusal :=
  .next (s.writeWord (.flowEntry b i k) (ownFlowEntry b i k w))

/-! ## Enables and counters -/

/-- The owner's part of an enable word: bits that hold no cause are ignored (R147). -/
def ownEnable (g : GroupId) (w : Word) (s : State) : Except Reject State :=
  .ok (s.updGroup g fun k => { k with enables := w.setWidth 8 &&& groupMask g })

/-- ENABLE_WRITE (R147). -/
def execEnableWrite (g : GroupId) (w : Word) (s : State) : Host.Outcome State Fault Refusal :=
  .next (s.writeWord (.enable g) (ownEnable g w))

/-- The owner's part of a counter word: any value sets the counter to 0 (R153). -/
def ownCounter (n : CounterId) (_ : Word) (s : State) : Except Reject State := .ok (s.clearCounter n)

/-- COUNTER_WRITE (R153). -/
def execCounterWrite (n : CounterId) (w : Word) (s : State) : Host.Outcome State Fault Refusal :=
  .next (s.writeWord (.counter n) (ownCounter n w))

end Sys2Proof.Machine
end

