-- ==== Sys2Proof/Machine/Commands.lean ====
section
/-! DEFINITION. Machine/Commands.lean: the commands of the COMMAND word (R164), TRAFFIC_RESET (R165), and a
word written at any address (R161, R162). -/

namespace Sys2Proof.Machine

/-! ## Port commands (R106 to R109) -/

/-- OPEN_PORT at port `p` (R107). -/
def State.openPort (s : State) (p : Port) : Except Reject State :=
  match (s.ports.get p).state with
  | .disabled => .ok (s.updPort p fun k => { k with state := .waiting, linkRequest := .permit })
  | .closed =>
    .ok (if (s.ports.get p).linkUp then s.enterOpen p
      else s.updPort p fun k => { k with state := .waiting })
  | _ => .error .wrongState

/-- CLOSE_PORT at port `p` (R108). -/
def State.closePort (s : State) (p : Port) : Except Reject State :=
  match (s.ports.get p).state with
  | .opened =>
    .ok (if (s.ports.get p).outstanding.isEmpty then
      (s.updPort p fun k => { k with state := .closed, hostCredits := 0, pendingCredits := 0 }).raise
        (.port p .closed)
    else s.updPort p fun k =>
      { k with state := .closing, hostCredits := k.hostCredits - k.pendingCredits, pendingCredits := 0 })
  | .waiting =>
    .ok (s.updPort p fun k => { k with state := .disabled, linkRequest := .holdDown, retrain := false })
  | _ => .error .wrongState

/-- The state of a port after RESET_PORT (R109 step 7). -/
def PortState.afterReset : PortState → PortState
  | .opened => .waiting
  | .closing => .closed
  | st => st

/-- RESET_PORT at port `p` (R109). -/
def State.resetPort (s : State) (p : Port) : Except Reject State :=
  match (s.ports.get p).state with
  | .disabled => .error .wrongState
  | st =>
    let cut := (s.cutPort p).updPort p fun k =>
      { k with linkUp := false, retrain := true, state := st.afterReset }
    .ok (if st = .closing then cut.raise (.port p .closed) else cut)

/-- A command that names a port: an argument above 3 is refused with BAD_VALUE (R164). -/
def onPort (arg : Byte) (f : Port → State → Except Reject State) (s : State) : Except Reject State :=
  if h : arg.toNat < 4 then f ⟨arg.toNat, h⟩ s else .error .badValue

/-- A command that names a class: an argument above 7 is refused with BAD_VALUE (R164). -/
def onClass (arg : Byte) (f : ClassId → State → State) (s : State) : Except Reject State :=
  if h : arg.toNat < 8 then .ok (f ⟨arg.toNat, h⟩ s) else .error .badValue

/-- OPEN_PORT (R107). -/
def execOpenPort (arg : Byte) (s : State) : Host.Outcome State Fault Refusal :=
  .next (s.writeWord .command (onPort arg fun p t => t.openPort p))

/-- CLOSE_PORT (R108). -/
def execClosePort (arg : Byte) (s : State) : Host.Outcome State Fault Refusal :=
  .next (s.writeWord .command (onPort arg fun p t => t.closePort p))

/-- RESET_PORT (R109). -/
def execResetPort (arg : Byte) (s : State) : Host.Outcome State Fault Refusal :=
  .next (s.writeWord .command (onPort arg fun p t => t.resetPort p))

/-- RESET_DOWNSTREAM (R139). -/
def execResetDownstream (s : State) : Host.Outcome State Fault Refusal :=
  .next (s.writeWord .command fun t => .ok t.resetDownstream)

/-! ## Class commands -/

/-- The HELD entries that `gone` holds of are answered ABORTED on their port's queue, in the order of taking,
where the port is OPEN or CLOSING, and removed; each returns its credit if its port is OPEN (R14, R19). -/
def State.abortHeld (s : State) (gone : StoreEntry → Bool) : State :=
  (s.removeHeld gone).updPorts fun p k =>
    let mine := s.held.filter fun e => gone e && e.port = p
    { k with queue := k.queue ++
        if k.state.serving then mine.map fun (e : StoreEntry) => abortedResponse e.hostTag else [] }.returnCredits mine.length

/-- PURGE_CLASS of class `c` (R14). -/
def State.purgeClass (s : State) (c : ClassId) : State := s.abortHeld (·.cls = c)

/-- PURGE_CLASS (R14). -/
def execPurgeClass (arg : Byte) (s : State) : Host.Outcome State Fault Refusal :=
  .next (s.writeWord .command (onClass arg fun c t => t.purgeClass c))

/-- RELOAD_CLASS (R32): a full refill in every mode. -/
def execReloadClass (arg : Byte) (s : State) : Host.Outcome State Fault Refusal :=
  .next (s.writeWord .command (onClass arg fun c t => t.updClass c ClassRec.fullRefill))

/-- SET_LOWEST (R46). -/
def execSetLowest (arg : Byte) (s : State) : Host.Outcome State Fault Refusal :=
  .next (s.writeWord .command (onClass arg fun c t =>
    t.updArb fun a => { a with ring := rotateLast a.ring c }))

/-- The other bank (R91). -/
def otherBank (b : Bank) : Bank := if b = 0 then 1 else 0

/-- The banks exchanged (R91). -/
def State.swapBanks (s : State) : State := s.updFlow fun f => { f with active := otherBank f.active }

/-- SWAP_BANKS (R91). -/
def execSwapBanks (s : State) : Host.Outcome State Fault Refusal :=
  .next (s.writeWord .command fun t => .ok t.swapBanks)

/-- The capture of class `c` as it stands (R154). -/
def State.snapshotOf (s : State) (c : ClassId) : Snapshot where
  budget := (s.classes.get c).budget
  queueLength := (s.queue c).length
  strikes := (s.classes.get c).strikes
  mark := s.marked c
  tenureFlag := s.holdsTenure c
  tenureCount := s.tenureCountOf c
  epochCounter := s.epoch.counter

/-- Each class of the set with a FREE slot is captured; a HELD slot keeps its capture (R155). -/
def State.snapshot (s : State) (classes : Byte) : State :=
  s.updClasses fun c k =>
    if classes.getLsbD c.val && k.slot.isNone then { k with slot := some (s.snapshotOf c) } else k

/-- SNAPSHOT (R155). -/
def execSnapshot (classes : Byte) (s : State) : Host.Outcome State Fault Refusal :=
  .next (s.writeWord .command fun t => .ok (t.snapshot classes))

/-! ## TRAFFIC_RESET (R165) -/

/-- The store's part: every HELD entry is answered and removed (R19). -/
def State.resetStore (s : State) : State := s.abortHeld fun _ => true

/-- The budget unit's part for one class: B restored without debt (R42). -/
def ClassRec.resetBudget (k : ClassRec) : ClassRec := { k with budget := entryBudget k.mode k.allowance }

/-- The monitor's part for one class: the written limit becomes active, strikes and clock 0 (R70). -/
def ClassRec.resetMonitor (k : ClassRec) : ClassRec := { k.stopClock with activeWait := k.writtenWait }

/-- The epoch timer's part: the written exponent becomes active and the timer restarts at a boundary with
counter 0 (R42). -/
def EpochTimer.restart (e : EpochTimer) : EpochTimer :=
  { e with activeExp := e.writtenExp, time := 0, counter := 0 }

/-- The two parts that place responses, in the order that `storeFirst` gives (R165). -/
def State.resetTraffic (s : State) (storeFirst : Bool) : State :=
  if storeFirst then s.resetStore.resetDownstream else s.resetDownstream.resetStore

/-- The parts of the budget unit, the arbiter, the monitor and the snapshot slots (R42, R59, R70, R157). -/
def State.resetBlocks (s : State) : State :=
  { ((s.updClasses fun _ k => { k.resetBudget.resetMonitor with slot := none }).updEpoch
      EpochTimer.restart).updArb fun a => { a with holder := none, count := 0 } with
    escapeList := [] }

/-- TRAFFIC_RESET's effect (R165).  The order of the store's part and the memory port's part is a free value;
the other parts give the same result in every order. -/
def State.trafficReset (s : State) : State :=
  { (s.resetTraffic (Config.storePartFirst s.freeIndex)).resetBlocks with freeIndex := s.freeIndex + 1 }

/-- TRAFFIC_RESET (R165). -/
def execTrafficReset (s : State) : Host.Outcome State Fault Refusal :=
  .next (s.writeWord .command fun t => .ok t.trafficReset)

/-! ## A word written at any address (R161, R162, R164) -/

/-- The owner's part of a COMMAND word: the code in bits 7 to 0, the argument in bits 15 to 8; a code that
names no command is refused with BAD_VALUE (R164). -/
def ownCommand (w : Word) (s : State) : Except Reject State :=
  let arg : Byte := BitVec.ofNat 8 (bitsOf w.toNat 8 8)
  match bitsOf w.toNat 0 8 with
  | 0x01 => onPort arg (fun p t => t.openPort p) s
  | 0x02 => onPort arg (fun p t => t.closePort p) s
  | 0x03 => onPort arg (fun p t => t.resetPort p) s
  | 0x04 => .ok s.resetDownstream
  | 0x05 => onClass arg (fun c t => t.purgeClass c) s
  | 0x06 => onClass arg (fun c t => t.updClass c ClassRec.fullRefill) s
  | 0x07 => onClass arg (fun c t => t.updArb fun a => { a with ring := rotateLast a.ring c }) s
  | 0x08 => .ok s.swapBanks
  | 0x09 => .ok (s.snapshot arg)
  | 0x0A => .ok s.trafficReset
  | _ => .error .badValue

/-- The owner's part of a word at a mapped word or at an unmapped address; read-only words refuse with
BAD_ADDRESS (R162). -/
def ownWord (a : Option MgmtWord) (w : Word) (s : State) : Except Reject State :=
  match a with
  | some (.mode c) => ownMode c w s
  | some (.allowance c) => ownAllowance c w s
  | some (.admitOn c) => ownAdmit c w s
  | some (.depthLimit c) => ownDepthLimit c w s
  | some (.tenureLimit c) => ownTenureLimit c w s
  | some (.waitLimit c) => ownWaitLimit c w s
  | some (.creditLimit p) => ownCreditLimit p w s
  | some (.defaultClass p) => ownDefaultClass p w s
  | some .deviceConfig => ownDeviceConfig w s
  | some .memLimit => ownMemLimit w s
  | some .timeout => ownTimeout w s
  | some .quarantineLevel => ownQuarantineLevel w s
  | some .ring => ownRing w s
  | some .command => ownCommand w s
  | some (.flowEntry b i k) => ownFlowEntry b i k w s
  | some (.counter n) => ownCounter n w s
  | some (.enable g) => ownEnable g w s
  | _ => .error .badAddress

/-- WORD_WRITE (R162): a word is taken at the current address.  At an address with a row of its own it is
what that row's command is; at an unmapped or read-only word it is refused with BAD_ADDRESS. -/
def execWordWrite (w : Word) (s : State) : Host.Outcome State Fault Refusal :=
  .next (if s.awake && s.mgmt.phase == .writing then
    s.takeWord (ownWord (decodeAddr s.mgmt.address) w) else s)

end Sys2Proof.Machine
end

