-- ==== Sys2Proof/Machine/Grant.lean ====
section
/-! DEFINITION. Machine/Grant.lean: the downstream arbiter's decision and what a grant does to each block
(spec chapter 3), and the end of a send on D (R12). -/

namespace Sys2Proof.Machine

/-! ## Candidates (R43, R44) -/

/-- The head of class `c` is READY (R9). -/
def State.headReady (s : State) (c : ClassId) : Bool := s.headCondition c == .ready

/-- Class `c` is eligible for a normal grant (R44). -/
def State.eligible (s : State) (c : ClassId) : Bool :=
  s.headReady c && (s.classes.get c).budgetEligible

/-- Class `c` is an escape candidate (R44). -/
def State.escapeCandidate (s : State) (c : ClassId) : Bool := s.marked c && s.headReady c

/-- Class `c` is a candidate (R44). -/
def State.candidate (s : State) (c : ClassId) : Bool := s.eligible c || s.escapeCandidate c

/-- The five conditions of a decision (R43). -/
def State.decisionDue (s : State) : Bool :=
  s.mem.link == .up && s.mem.dTx.isNone && s.mem.lowestFree.isSome && 1 ≤ s.mem.credits
    && (List.finRange 8).any s.candidate

/-! ## The choice (R49, R50, R52) -/

/-- The kind of a grant and, for a normal one, the step of R49 that made it: step 2 continues the tenure,
step 3 begins one. -/
inductive GrantKind where
  | escape
  | continued
  | begun
deriving DecidableEq, Repr

/-- A grant is normal (R49). -/
def GrantKind.normal : GrantKind → Bool
  | .escape => false
  | _ => true

/-- The holder has lost its tenure before the choice: it is not eligible, or its count is at or above its
tenure limit (R52). -/
def State.tenureStale (s : State) : Bool :=
  match s.arb.holder with
  | none => false
  | some h => !s.eligible h || (s.classes.get h).tenureLimit ≤ s.arb.count

/-- The state on which the choice is made: a tenure that ends at the decision has ended and the ring has
moved as the arbitration mode requires (R50). -/
def State.settleTenure (s : State) : State := if s.tenureStale then s.updArb Arbiter.endTenure else s

/-- The classes ranked above class `c` (R45). -/
def rankedAbove (ring : List ClassId) (c : ClassId) : List ClassId := ring.takeWhile (· ≠ c)

/-- Step 2 of R49 holds for the holder `h`. -/
def State.tenureContinues (s : State) (h : ClassId) : Bool :=
  s.eligible h && s.arb.count < (s.classes.get h).tenureLimit
    && (rankedAbove s.arb.ring h).all (!s.eligible ·)

/-- Steps 2 and 3 of R49: the normal grant that the ring gives. -/
def State.chooseNormal (s : State) : Option (ClassId × GrantKind) :=
  match s.arb.holder.filter s.tenureContinues with
  | some h => some (h, .continued)
  | none => (s.arb.ring.find? s.eligible).map (·, .begun)

/-- The three steps of R49: the class and the kind of grant that a decision chooses. -/
def State.choose (s : State) : Option (ClassId × GrantKind) :=
  match s.escapeList.find? s.headReady with
  | some c => some (c, .escape)
  | none => s.chooseNormal

/-! ## What a grant does (R54) -/

/-- 1. The store: the head of queue `c` leaves its queue and its chain and is ISSUING (R11). -/
def State.grantStore (s : State) (c : ClassId) (e : StoreEntry) : State :=
  { s with held := s.held.eraseP (·.cls = c), issuing := some e }

/-- The charge of a normal grant in a metered mode (R24, R25). -/
def ClassRec.charge (k : ClassRec) (units : Nat) : ClassRec :=
  if k.mode.metered then { k with budget := k.budget - units } else k

/-- A charge of `units` raises SPENT: the class is in HOLD mode and B goes from above 0 to 0 or below
(R26). -/
def ClassRec.spends (k : ClassRec) (units : Nat) : Bool :=
  k.mode == .hold && 0 < k.budget && k.budget - units ≤ 0

/-- 2. The budget unit: a normal grant charges the class, an escape grant does not (R24 to R26). -/
def State.grantBudget (s : State) (c : ClassId) (kind : GrantKind) (units : Nat) : State :=
  if kind.normal then
    let charged := s.updClass c (·.charge units)
    if (s.classes.get c).spends units then charged.raise (.cls c .spent) else charged
  else s

/-- The in-flight record of a granted entry (R130). -/
def recordOf (e : StoreEntry) : FlightRecord where
  port := e.port
  hostTag := e.hostTag
  kind := e.kind
  length := e.length
  cls := e.cls

/-- The remaining time that an entry is granted with: absent while the response timeout is 0 (R130). -/
def MemPort.initialTime (m : MemPort) : Option Nat := if m.timeout = 0 then none else some m.timeout

/-- 3. The memory port: tag `t` becomes IN_FLIGHT, one credit is consumed and the send begins (R78, R127,
R128, R130). -/
def State.grantMemory (s : State) (t : DTag) (e : StoreEntry) : State :=
  s.updMem fun m =>
    { m.putEntry t (.inFlight (recordOf e) m.initialTime) with
      credits := m.credits - 1
      dTx := some ⟨t, e⟩ }

/-- The tenure ends at a grant that brings the count to the limit (R52). -/
def Arbiter.endAtLimit (a : Arbiter) (limit : Nat) : Arbiter := if limit ≤ a.count then a.endTenure else a

/-- 4. The arbiter: an escape grant ends any tenure; step 2 raises the count; step 3 ends the old tenure
and begins one with count 1; a count that reaches the limit ends the tenure (R51, R52). -/
def Arbiter.afterGrant (a : Arbiter) (c : ClassId) (kind : GrantKind) (limit : Nat) : Arbiter :=
  match kind with
  | .escape => a.endTenure
  | .continued => { a with count := a.count + 1 }.endAtLimit limit
  | .begun => { a.endTenure with holder := some c, count := 1 }.endAtLimit limit

/-- 4. The arbiter's part of a grant. -/
def State.grantArbiter (s : State) (c : ClassId) (kind : GrantKind) : State :=
  s.updArb (·.afterGrant c kind (s.classes.get c).tenureLimit)

/-- 5. The starvation monitor: strikes and mark are cleared, and the clock goes to 0 with the written wait limit
loaded: it restarts or, with the queue now empty, is stopped, and R67 has the value become active at both
(log 16).  An escape grant is counted and raises ESCAPE (R65, R66). -/
def State.grantMonitor (s : State) (c : ClassId) (kind : GrantKind) : State :=
  let cleared := (s.updClass c fun k => { k.restartClock with strikes := 0 }).unmark c
  match kind with
  | .escape =>
    (cleared.updClass c fun k => { k with escapeGrants := bump k.escapeGrants 1 }).raise (.cls c .escape)
  | _ => cleared

/-- 6. Statistics: the grant and granted-units counters (R152). -/
def State.grantCounters (s : State) (c : ClassId) (units : Nat) : State :=
  s.updClass c fun k =>
    { k with grants := bump k.grants 1, grantedUnits := bump k.grantedUnits units }

/-- A grant of class `c`, whose head is `e`, under the downstream tag `t`: one event in its six parts
(R54). -/
def State.grant (s : State) (c : ClassId) (kind : GrantKind) (e : StoreEntry) (t : DTag) : State :=
  (((((s.grantStore c e).grantBudget c kind e.length).grantMemory t e).grantArbiter c kind).grantMonitor c
    kind).grantCounters c e.length

/-- The head that a chosen class is granted with and the tag it is granted under (R54, R55). -/
def State.grantee (s : State) : Option ((ClassId × GrantKind) × StoreEntry × DTag) :=
  s.choose.bind fun ck =>
    (s.queue ck.1).head?.bind fun e => s.mem.lowestFree.map fun t => (ck, e, t)

/-- A decision (R43): the tenure is settled, a class is chosen and granted.  While any of the five
conditions is false no decision is taken and nothing changes. -/
def State.decide (s : State) : State :=
  if s.awake && s.decisionDue then
    match s.settleTenure.grantee with
    | some ((c, kind), e, t) => s.settleTenure.grant c kind e t
    | none => s.settleTenure
  else s

/-- GRANT_DECISION (R43). -/
def execGrantDecision (s : State) : Host.Outcome State Fault Refusal := .next s.decide

/-- SEND_END (R12): the store frees the ISSUING entry, a credit is returned if its port is OPEN, and the D
transmitter is idle.  With no send in progress nothing ends. -/
def execSendEnd (s : State) : Host.Outcome State Fault Refusal :=
  .next (if s.awake && s.issuing.isSome then s.freeIssuing else s)

end Sys2Proof.Machine
end

