-- ==== Sys2Proof/Machine/Memory.lean ====
section
/-! DEFINITION. Machine/Memory.lean: the events of the memory link and of the in-flight table (spec chapters
5 and 8). -/

namespace Sys2Proof.Machine

/-! ## Responses (R132 to R134) -/

/-- A response matches the record of an IN_FLIGHT entry: DATA for a READ or DONE for a WRITE, of the
entry's Length and of correct form (R132). -/
def FlightRecord.matched (r : FlightRecord) (k : MemPacket) : Bool :=
  (match r.kind with
    | .read => k.kind == some .data
    | .write => k.kind == some .done)
    && k.length == r.length && k.correctForm

/-- The answer that a matching response becomes (R132, R75). -/
def FlightRecord.forward (r : FlightRecord) (k : MemPacket) : Answer :=
  match r.kind with
  | .read => .data r.length k.payload
  | .write => .done

/-- The entry of tag `t` becomes FREE (R129). -/
def State.freeTag (s : State) (t : DTag) : State := s.updMem (·.putEntry t .free)

/-- UNEXPECTED is raised and one unexpected response is counted: a response for a FREE tag (R134) or a
packet of a wrong kind at D (R80). -/
def State.unexpectedResponse (s : State) : State :=
  (s.updMem fun m => { m with unexpectedResponses := bump m.unexpectedResponses 1 }).raise (.down .unexpected)

/-- A response to an IN_FLIGHT entry: forwarded when it matches (R132), else answered FAILED, with MEM_ERROR
counted for an ERROR and UNEXPECTED for a mismatch (R133). -/
def State.answerInFlight (s : State) (t : DTag) (r : FlightRecord) (k : MemPacket) : State :=
  let freed := s.freeTag t
  if r.matched k then freed.answer r.port ⟨r.hostTag, r.forward k⟩
  else
    let failed := freed.answer r.port ⟨r.hostTag, .failed⟩
    if k.kind = some .error then
      (failed.updMem fun m => { m with memoryErrors := bump m.memoryErrors 1 }).raise (.down .memError)
    else failed.raise (.down .unexpected)

/-- A response is handled by the state of its tag's entry (R132 to R134). -/
def State.memoryResponse (s : State) (k : MemPacket) : State :=
  match s.mem.table.get k.tag with
  | .inFlight r _ => s.answerInFlight k.tag r k
  | .orphan _ _ => s.freeTag k.tag
  | .late _ =>
    ((s.freeTag k.tag).updMem fun m => { m with lateDiscarded := bump m.lateDiscarded 1 }).raise (.down .late)
  | .free => s.unexpectedResponse

/-! ## CREDIT messages (R80, R127) -/

/-- A CREDIT message with Count `n`: the credits rise, stopping at N with CREDIT_FAULT (R127); Count 0
changes nothing and is not a fault (R80). -/
def State.memoryCredit (s : State) (n : Nat) : State :=
  if n ≠ 0 ∧ s.mem.announced < s.mem.credits + n then
    (s.updMem fun m => { m with credits := m.announced }).raise (.down .creditFault)
  else s.updMem fun m => { m with credits := m.credits + n }

/-- A packet that arrives whole at D, by its Kind; a kind that the memory should not send is discarded with
UNEXPECTED (R79, R80). -/
def State.memoryPacket (s : State) (k : MemPacket) : State :=
  match k.kind with
  | some .data => s.memoryResponse k
  | some .done => s.memoryResponse k
  | some .error => s.memoryResponse k
  | some .credit => s.memoryCredit k.count
  | _ => s.unexpectedResponse

/-- Packets are received on D only while the memory link is UP (R71). -/
def State.memoryListens (s : State) : Bool := s.awake && s.mem.link == .up

/-- MEMORY_RESPONSE (R79). -/
def execMemoryResponse (packet : List Byte) (s : State) : Host.Outcome State Fault Refusal :=
  .next (if s.memoryListens then s.memoryPacket (readMemPacket packet) else s)

/-- MEM_CREDIT (R127). -/
def execMemCredit (packet : List Byte) (s : State) : Host.Outcome State Fault Refusal :=
  .next (if s.memoryListens then s.memoryPacket (readMemPacket packet) else s)

/-! ## The memory link (R125, R126, R138) -/

/-- MEM_TRAINING (R125): DOWN and TRAINING become TRAINING.  An UP link does not begin to train (R82). -/
def execMemTraining (s : State) : Host.Outcome State Fault Refusal :=
  .next (if s.awake && s.mem.link != .up then
    s.updMem fun m => { m with link := .training, retrain := false } else s)

/-- The link up indication with its credit announcement: 1 to 32 is accepted, another count is refused with
CREDIT_FAULT and a retrain (R126). -/
def State.memoryLinkUp (s : State) (n : Nat) : State :=
  if 1 ≤ n && n ≤ 32 then
    (s.updMem fun m => { m with link := .up, announced := n, credits := n, retrain := false }).raise
      (.down .linkUp)
  else (s.updMem fun m => { m with retrain := true }).raise (.down .creditFault)

/-- MEM_LINK_UP (R126).  It is reported only at the end of training. -/
def execMemLinkUp (announced : BitVec 6) (s : State) : Host.Outcome State Fault Refusal :=
  .next (if s.awake && s.mem.link == .training then s.memoryLinkUp announced.toNat else s)

/-- MEM_LINK_LOST (R138).  It is reported only for a link that is UP. -/
def execMemLinkLost (s : State) : Host.Outcome State Fault Refusal :=
  .next (if s.awake && s.mem.link == .up then
    (s.clearDownstream.updMem fun m => { m with link := .down }).raise (.down .linkLost) else s)

/-! ## Timeouts (R135, R136) -/

/-- QUARANTINE is raised where the LATE count has just risen from below the level to it or above (R136). -/
def State.quarantineCheck (s : State) (before : Nat) : State :=
  if before < s.mem.quarantineLevel && s.mem.quarantineLevel ≤ s.mem.lateCount then
    s.raise (.down .quarantine)
  else s

/-- The entry of tag `t` becomes LATE, with the quarantine check (R135, R136). -/
def State.makeLate (s : State) (t : DTag) (r : FlightRecord) : State :=
  (s.updMem (·.putEntry t (.late r))).quarantineCheck s.mem.lateCount

/-- The timeout of tag `t` (R135).  Only an IN_FLIGHT or ORPHAN entry whose remaining time has come to 0 times
out: an entry granted while the response timeout was 0 has none and never does (R131). -/
def State.timeOut (s : State) (t : DTag) : State :=
  match s.mem.table.get t with
  | .inFlight r (some 0) =>
    ((((s.answer r.port ⟨r.hostTag, .timeout⟩).updMem fun m =>
      { m with timeouts := bump m.timeouts 1 }).raise (.down .timeout)).makeLate t r)
  | .orphan r (some 0) => s.makeLate t r
  | _ => s

/-- ENTRY_TIMEOUT (R135): the remaining time of tag `t` has reached 0. -/
def execEntryTimeout (t : DTag) (s : State) : Host.Outcome State Fault Refusal :=
  .next (if s.awake then s.timeOut t else s)

end Sys2Proof.Machine
end

