-- ==== Sys2Proof/Machine/Reset.lean ====
section
/-! DEFINITION. Machine/Reset.lean: the RST# line (R166).  The model's own fields (the queue and the draws) and
the level of CS, which is the controller's, are not the part's to reset. -/

namespace Sys2Proof.Machine

/-- The part at its power-on values, with the model's own fields and the level of CS kept. -/
def State.atPowerOn (s : State) (openstrap : Bool) : State :=
  { State.powerOn openstrap with
    pins := { (State.powerOn openstrap).pins with csLow := s.pins.csLow }
    freeIndex := s.freeIndex
    pending := s.pending }

/-- RST_ASSERT (R166): every block is held at its power-on values and every host link is held down. -/
def execRstAssert (s : State) : Host.Outcome State Fault Refusal :=
  .next ((s.atPowerOn false).updPins fun k => { k with rstLow := true })

/-- RST_RELEASE (R166): the blocks start from their power-on values and the ports sample OPENSTRAP (R123).
Only a low RST# can be released. -/
def execRstRelease (openstrap : Bool) (s : State) : Host.Outcome State Fault Refusal :=
  .next (if s.pins.rstLow then s.atPowerOn openstrap else s)

end Sys2Proof.Machine
end

