-- ==== Sys2Proof/Machine/Timers.lean ====
section
/-! DEFINITION. Machine/Timers.lean: the expiries of the wait clocks, the epoch timer's points, FRAME, and the
1 µs base tick that moves the timers (spec chapters 2, 4 and 8). -/

namespace Sys2Proof.Machine

/-! ## Wait clock expiry (R63) -/

/-- The first expiry: STARVED, one strike, and the clock restarts (R63). -/
def State.firstExpiry (s : State) (c : ClassId) : State :=
  (s.updClass c fun k => { k.restartClock with strikes := 1 }).raise (.cls c .starved)

/-- The second expiry: the mark is set, the class joins the tail of the escape list, and the clock stops at
its limit (R63, R60). -/
def State.secondExpiry (s : State) (c : ClassId) : State :=
  let struck := s.updClass c fun k => { k with strikes := 2, clock := k.activeWait }
  { struck with escapeList := s.escapeList ++ [c] }

/-- The wait clock of class `c` expires now: it is RUNNING and its value has reached the active wait limit
(R63). -/
def State.waitExpired (s : State) (c : ClassId) : Bool :=
  s.clockCondition c == .running && (s.classes.get c).activeWait ≤ (s.classes.get c).clock

/-- WAIT_CLOCK_EXPIRY (R63).  A clock that is not RUNNING, or that stands below its limit, does not expire (R68):
nothing changes. -/
def execWaitClockExpiry (c : ClassId) (s : State) : Host.Outcome State Fault Refusal :=
  .next (if s.awake && s.waitExpired c then
    if (s.classes.get c).strikes = 0 then s.firstExpiry c else s.secondExpiry c else s)

/-! ## Epoch points and FRAME (R35, R36, R39) -/

/-- What an epoch boundary does to a class, by its mode (R35, R28). -/
def ClassRec.atBoundary (k : ClassRec) : ClassRec :=
  match k.mode with
  | .periodic => k.fullRefill
  | .halved => k.boundaryRefill
  | _ => k

/-- What the mid-epoch point does to a class, by its mode (R36, R28). -/
def ClassRec.atMidEpoch (k : ClassRec) : ClassRec :=
  match k.mode with
  | .halved => k.midRefill
  | _ => k

/-- What a rising edge of FRAME does to a class, by its mode (R39, R28). -/
def ClassRec.atFrame (k : ClassRec) : ClassRec :=
  match k.mode with
  | .triggered => k.fullRefill
  | _ => k

/-- The epoch timer at a boundary: the counter rises by one modulo 2^32, the written exponent becomes active
and the epoch time returns to 0 (R34, R35). -/
def EpochTimer.boundary (e : EpochTimer) : EpochTimer :=
  { e with activeExp := e.writtenExp, time := 0, counter := e.counter + 1 }

/-- The time at which the mid-epoch point of the current epoch comes (R34). -/
def EpochTimer.midPoint (e : EpochTimer) : Nat := 2 ^ (e.activeExp - 1)

/-- An epoch boundary (R35). -/
def State.epochBoundary (s : State) : State :=
  ((s.updEpoch EpochTimer.boundary).updClasses fun _ => ClassRec.atBoundary).raise (.device .epoch)

/-- The epoch ends at the next tick of its time (R34). -/
def EpochTimer.atEnd (e : EpochTimer) : Bool := 2 ^ e.activeExp ≤ e.time + 1

/-- The mid-epoch point comes at the next tick of the epoch time (R34). -/
def EpochTimer.atMid (e : EpochTimer) : Bool := e.time + 1 = e.midPoint

/-- EPOCH_BOUNDARY (R35).  It comes at the end of the epoch alone: after a restart of the timer, no boundary
follows before the restarted epoch ends (R42). -/
def execEpochBoundary (s : State) : Host.Outcome State Fault Refusal :=
  .next (if s.awake && s.epoch.atEnd then s.epochBoundary else s)

/-- The mid-epoch point (R36): the epoch time stands at half the epoch (R34). -/
def State.midEpochPoint (s : State) : State :=
  (s.updEpoch fun e => { e with time := e.midPoint }).updClasses fun _ => ClassRec.atMidEpoch

/-- MID_EPOCH_POINT (R36).  It comes at the middle of the epoch alone. -/
def execMidEpochPoint (s : State) : Host.Outcome State Fault Refusal :=
  .next (if s.awake && s.epoch.atMid then s.midEpochPoint else s)

/-- A rising edge of FRAME (R39). -/
def State.frameEdge (s : State) : State :=
  ((s.updPins fun k => { k with frameSample := some true }).updClasses fun _ => ClassRec.atFrame).raise
    (.device .frame)

/-- FRAME_EDGE (R39).  While RST# is low no edge is taken. -/
def execFrameEdge (s : State) : Host.Outcome State Fault Refusal :=
  .next (if s.awake then s.frameEdge else s)

/-! ## The base tick (R34, R61, R131)

DESIGN CHOICE (log 3): the tick is what a step does when no command waits.  The event of a timer that this tick
brings to its end is put in the queue.  A wait clock then stands at its limit and a remaining time at 0 until
that event is taken; the epoch time, which the event itself moves, stands one tick short (log 7). -/

/-- The epoch time after a tick: it stays one short of the mid-epoch point and of the boundary, whose events
bring it there. -/
def EpochTimer.tick (e : EpochTimer) : EpochTimer :=
  if e.atMid || e.atEnd then e else { e with time := e.time + 1 }

/-- The epoch events that a tick brings due (R34). -/
def EpochTimer.due (e : EpochTimer) : List Instr :=
  if e.atEnd then [.epochBoundary]
  else if e.atMid then [.midEpochPoint] else []

/-- The wait clock of class `c` reaches its active wait limit at this tick, or stands at it (R63). -/
def State.waitDue (s : State) (c : ClassId) : Bool :=
  s.clockCondition c == .running && (s.classes.get c).activeWait ≤ (s.classes.get c).clock + 1

/-- A class's wait clock after a tick: a RUNNING clock rises by 1, up to its limit (R61, R60). -/
def State.tickClass (s : State) (c : ClassId) (k : ClassRec) : ClassRec :=
  if s.clockCondition c = .running ∧ k.clock < k.activeWait then { k with clock := k.clock + 1 } else k

/-- The remaining time of an in-flight entry, where it is counted (R131). -/
def InFlight.remaining : InFlight → Option Nat
  | .inFlight _ left => left
  | .orphan _ left => left
  | _ => none

/-- The entry's remaining time reaches 0 at this tick, or stands at it (R131). -/
def InFlight.timeDue (e : InFlight) : Bool :=
  match e.remaining with
  | some n => n ≤ 1
  | none => false

/-- An in-flight entry after a tick: a remaining time falls by 1 (R131). -/
def InFlight.tick : InFlight → InFlight
  | .inFlight r (some n) => .inFlight r (some (n - 1))
  | .orphan r (some n) => .orphan r (some (n - 1))
  | e => e

/-- The events that a tick brings due. -/
def State.due (s : State) : List Instr :=
  s.epoch.due ++ ((List.finRange 8).filter s.waitDue).map Instr.waitClockExpiry
    ++ ((List.finRange 64).filter fun t => (s.mem.table.get t).timeDue).map Instr.entryTimeout
    ++ s.readDue

/-- The number of the timer behind an event; 74 is the READ frame's. -/
def dueCode : Instr → Nat
  | .epochBoundary => 0
  | .midEpochPoint => 1
  | .waitClockExpiry c => 2 + c.val
  | .entryTimeout t => 10 + t.val
  | _ => 74

/-- An event put into a list that the free ranks of one draw order. -/
def insertDue (draw : Nat) (i : Instr) : List Instr → List Instr
  | [] => [i]
  | j :: rest =>
    if Config.eventRank draw (dueCode i) ≤ Config.eventRank draw (dueCode j) then i :: j :: rest
    else j :: insertDue draw i rest

/-- The events of one tick in the order that the free ranks of one draw give them: they are taken one after
the other, in either order (R63, R135). -/
def orderDue (draw : Nat) : List Instr → List Instr
  | [] => []
  | i :: rest => insertDue draw i (orderDue draw rest)

/-- One base tick with no command waiting: every timer moves by 1 µs, a READ frame may read on, and the events
that fall due wait in the queue. -/
def State.tick (s : State) : State :=
  if s.awake then
    { ((s.readTick.updClasses s.tickClass).updEpoch EpochTimer.tick).updMem fun m =>
        { m with table := .build fun t => (m.table.get t).tick } with
      pending := orderDue s.freeIndex s.due
      freeIndex := s.freeIndex + 1 }
  else s

end Sys2Proof.Machine
end

