-- ==== Sys2Proof/Machine/Dispatch.lean ====
section
/-! DEFINITION. Machine/Dispatch.lean: one arm for each command of the table. -/

namespace Sys2Proof.Machine

def exec (i : Instr) (s : State) : Host.Outcome State Fault Refusal :=
  match i with
  | .arrivalEvent p packet => Sys2Proof.Machine.execArrivalEvent p packet s
  | .portLinkUp p => Sys2Proof.Machine.execPortLinkUp p s
  | .portLinkLost p => Sys2Proof.Machine.execPortLinkLost p s
  | .upstreamSendBegin p => Sys2Proof.Machine.execUpstreamSendBegin p s
  | .creditSendEnd p => Sys2Proof.Machine.execCreditSendEnd p s
  | .responseSendEnd p => Sys2Proof.Machine.execResponseSendEnd p s
  | .grantDecision => Sys2Proof.Machine.execGrantDecision s
  | .sendEnd => Sys2Proof.Machine.execSendEnd s
  | .memoryResponse packet => Sys2Proof.Machine.execMemoryResponse packet s
  | .memCredit packet => Sys2Proof.Machine.execMemCredit packet s
  | .memTraining => Sys2Proof.Machine.execMemTraining s
  | .memLinkUp announced => Sys2Proof.Machine.execMemLinkUp announced s
  | .memLinkLost => Sys2Proof.Machine.execMemLinkLost s
  | .entryTimeout t => Sys2Proof.Machine.execEntryTimeout t s
  | .waitClockExpiry c => Sys2Proof.Machine.execWaitClockExpiry c s
  | .epochBoundary => Sys2Proof.Machine.execEpochBoundary s
  | .midEpochPoint => Sys2Proof.Machine.execMidEpochPoint s
  | .frameEdge => Sys2Proof.Machine.execFrameEdge s
  | .rstAssert => Sys2Proof.Machine.execRstAssert s
  | .rstRelease openstrap => Sys2Proof.Machine.execRstRelease openstrap s
  | .csFall => Sys2Proof.Machine.execCsFall s
  | .opcodeByte b => Sys2Proof.Machine.execOpcodeByte b s
  | .csRise => Sys2Proof.Machine.execCsRise s
  | .claimCapture g => Sys2Proof.Machine.execClaimCapture g s
  | .claimCompletion => Sys2Proof.Machine.execClaimCompletion s
  | .snapshotSlotRead c => Sys2Proof.Machine.execSnapshotSlotRead c s
  | .wordWrite w => Sys2Proof.Machine.execWordWrite w s
  | .modeWrite c w => Sys2Proof.Machine.execModeWrite c w s
  | .allowanceWrite c w => Sys2Proof.Machine.execAllowanceWrite c w s
  | .deviceConfigWrite w => Sys2Proof.Machine.execDeviceConfigWrite w s
  | .ringWrite w => Sys2Proof.Machine.execRingWrite w s
  | .tenureLimitWrite c w => Sys2Proof.Machine.execTenureLimitWrite c w s
  | .waitLimitWrite c w => Sys2Proof.Machine.execWaitLimitWrite c w s
  | .flowEntryWrite b e k w => Sys2Proof.Machine.execFlowEntryWrite b e k w s
  | .defaultClassWrite p w => Sys2Proof.Machine.execDefaultClassWrite p w s
  | .memLimitWrite w => Sys2Proof.Machine.execMemLimitWrite w s
  | .admitWrite c w => Sys2Proof.Machine.execAdmitWrite c w s
  | .depthLimitWrite c w => Sys2Proof.Machine.execDepthLimitWrite c w s
  | .creditLimitWrite p w => Sys2Proof.Machine.execCreditLimitWrite p w s
  | .timeoutWrite w => Sys2Proof.Machine.execTimeoutWrite w s
  | .quarantineLevelWrite w => Sys2Proof.Machine.execQuarantineLevelWrite w s
  | .enableWrite g w => Sys2Proof.Machine.execEnableWrite g w s
  | .counterWrite n w => Sys2Proof.Machine.execCounterWrite n w s
  | .openPort arg => Sys2Proof.Machine.execOpenPort arg s
  | .closePort arg => Sys2Proof.Machine.execClosePort arg s
  | .resetPort arg => Sys2Proof.Machine.execResetPort arg s
  | .resetDownstream => Sys2Proof.Machine.execResetDownstream s
  | .purgeClass arg => Sys2Proof.Machine.execPurgeClass arg s
  | .reloadClass arg => Sys2Proof.Machine.execReloadClass arg s
  | .setLowest arg => Sys2Proof.Machine.execSetLowest arg s
  | .swapBanks => Sys2Proof.Machine.execSwapBanks s
  | .snapshot classes => Sys2Proof.Machine.execSnapshot classes s
  | .trafficReset => Sys2Proof.Machine.execTrafficReset s
  | .lastAddressBit a => Sys2Proof.Machine.execLastAddressBit a s

end Sys2Proof.Machine
end

