-- ==== Sys2Proof/Safety.lean ====
section
/-! DEFINITION. Safety.lean: what a sound state of the part is, block by block, in the terms of the manual's
own laws, and the words that the statements use for a management word, a refusal and a frame. -/

namespace Sys2Proof.Machine

/-! ## Laws that every step keeps -/

/-- The priority ring holds each of the eight classes exactly once (R45). -/
def State.RingLaw (s : State) : Prop :=
  s.arb.ring.Nodup ∧ ∀ c : ClassId, c ∈ s.arb.ring

/-- The tenure record (R51): no holder has count 0, a holder 1 to 16; every tenure limit is 1 to 16. -/
def State.TenureLaw (s : State) : Prop :=
  (s.arb.holder = none → s.arb.count = 0)
    ∧ (∀ c, s.arb.holder = some c → 1 ≤ s.arb.count ∧ s.arb.count ≤ 16)
    ∧ ∀ c, 1 ≤ (s.classes.get c).tenureLimit ∧ (s.classes.get c).tenureLimit ≤ 16

/-- A stored request has Length 1 to 8 and carries Length × 32 bytes when it is a WRITE, none when it is a READ
(R2). -/
def StoreEntry.Sound (e : StoreEntry) : Prop :=
  1 ≤ e.length ∧ e.length ≤ 8 ∧ e.data.length = expectedPayload e.kind e.length

/-- The record of an in-flight entry that is not FREE (R129). -/
def InFlight.record : InFlight → Option FlightRecord
  | .free => none
  | .inFlight r _ => some r
  | .orphan r _ => some r
  | .late r => some r

/-- Every entry of the store is sound (R2), and every in-flight record has a Length of 1 to 8 (R129). -/
def State.StoreLaw (s : State) : Prop :=
  (∀ e ∈ s.held, e.Sound) ∧ (∀ e ∈ s.issuing, e.Sound)
    ∧ ∀ t r, (s.mem.table.get t).record = some r → 1 ≤ r.length ∧ r.length ≤ 8

/-- The budget counter of every class stays between -7 and its allowance, which is at most 65535 (R21). -/
def State.BudgetLaw (s : State) : Prop :=
  ∀ c, -7 ≤ (s.classes.get c).budget ∧ (s.classes.get c).budget ≤ (s.classes.get c).allowance
    ∧ (s.classes.get c).allowance ≤ 65535

/-- Every capture in a snapshot slot holds values of the ranges of R154. -/
def State.SlotLaw (s : State) : Prop :=
  ∀ c v, (s.classes.get c).slot = some v →
    (-7 ≤ v.budget ∧ v.budget ≤ 65535) ∧ v.queueLength ≤ 128 ∧ v.tenureCount ≤ 16
      ∧ (v.tenureFlag = false → v.tenureCount = 0)

/-- The epoch timer: both exponents are 4 to 20 and the epoch time is below the epoch's length (R34). -/
def State.EpochLaw (s : State) : Prop :=
  (4 ≤ s.epoch.activeExp ∧ s.epoch.activeExp ≤ 20) ∧ (4 ≤ s.epoch.writtenExp ∧ s.epoch.writtenExp ≤ 20)
    ∧ s.epoch.time < 2 ^ s.epoch.activeExp

/-- The starvation monitor (R60, R61, R66): a class is on the escape list exactly when its strike count is 2 and
it is there once; an empty queue has strikes 0 and a clock at 0, and so has a class whose active wait limit is
0; the clock never passes the active wait limit, and while the link is not UP a clock that is not stopped at its
second expiry stands below it (R68); the two limits are 0 together. -/
def State.MonitorLaw (s : State) : Prop :=
  s.escapeList.Nodup
    ∧ ∀ c, (c ∈ s.escapeList ↔ (s.classes.get c).strikes = 2)
      ∧ (s.queue c = [] → (s.classes.get c).strikes = 0 ∧ (s.classes.get c).clock = 0)
      ∧ ((s.classes.get c).activeWait = 0 → (s.classes.get c).strikes = 0)
      ∧ ((s.classes.get c).activeWait = 0 ↔ (s.classes.get c).writtenWait = 0)
      ∧ (s.classes.get c).clock ≤ (s.classes.get c).activeWait
      ∧ (s.mem.link ≠ .up → (s.classes.get c).strikes ≠ 2 → (s.classes.get c).activeWait ≠ 0 →
        (s.classes.get c).clock < (s.classes.get c).activeWait)
      ∧ (s.classes.get c).activeWait ≤ 65535 ∧ (s.classes.get c).writtenWait ≤ 65535

/-- Every entry of both flow banks is one that R87 allows: a valid entry has its streams in order and, with a
window, its window in order. -/
def State.FlowLaw (s : State) : Prop :=
  ∀ (b : Bank) (i : EntryIdx), ((s.flow.banks.get b).get i).valid = true →
    ((s.flow.banks.get b).get i).streamLow.toNat ≤ ((s.flow.banks.get b).get i).streamHigh.toNat
      ∧ (((s.flow.banks.get b).get i).windowPresent = true →
        ((s.flow.banks.get b).get i).base.toNat ≤ ((s.flow.banks.get b).get i).limit.toNat)

/-- The settings hold values of their ranges: memory limit (R97), depth limits (R100), response timeout (R131),
quarantine level (R136). -/
def State.SettingsLaw (s : State) : Prop :=
  (1 ≤ s.flow.memLimit ∧ s.flow.memLimit ≤ 65536)
    ∧ (∀ c, 1 ≤ (s.classes.get c).depthLimit ∧ (s.classes.get c).depthLimit ≤ 128)
    ∧ s.mem.timeout ≤ 65535 ∧ (1 ≤ s.mem.quarantineLevel ∧ s.mem.quarantineLevel ≤ 64)

/-- Every statistics counter is at most 2^32 - 1 (R152). -/
def State.CounterLaw (s : State) : Prop := ∀ n : CounterId, s.counter n ≤ 4294967295

/-- The memory port (R126, R127, R129, R131, R138): the credits held are at most the announced count, which is
at most 32; while the link is not UP no credit is held and every tag is FREE; the D transmitter is busy
exactly while an entry is ISSUING, and sends that entry; a remaining time is at most 65535 (at 0 its timeout is
due). -/
def State.MemoryLaw (s : State) : Prop :=
  (s.mem.credits ≤ s.mem.announced ∧ s.mem.announced ≤ 32)
    ∧ (s.mem.link ≠ .up → s.mem.credits = 0 ∧ s.issuing = none ∧ ∀ t, s.mem.table.get t = .free)
    ∧ s.mem.dTx.map DPacket.entry = s.issuing
    ∧ (∀ t n, (s.mem.table.get t).remaining = some n → n ≤ 65535)
    ∧ s.mem.timeout ≤ 65535

/-- The host tags of port `p` that wait in the store for an answer: its HELD entries. -/
def State.heldTags (s : State) (p : Port) : List HostTag :=
  (s.held.filter (·.port = p)).map StoreEntry.hostTag

/-- The host tags of port `p` that wait for the memory: its IN_FLIGHT entries, in the order of the downstream
tags. -/
def State.flightTags (s : State) (p : Port) : List HostTag :=
  (s.mem.inFlightRecords.filter (·.port = p)).map FlightRecord.hostTag

/-- The host tags of port `p` that have their answer waiting on the response queue. -/
def State.answeredTags (s : State) (p : Port) : List HostTag :=
  (s.ports.get p).queue.map Response.hostTag

/-- Every outstanding tag of a port stands in exactly one place: with a HELD entry, with an IN_FLIGHT entry, or
with the answer on the queue (R115: each request has exactly one answer). -/
def State.AnswerLaw (s : State) : Prop :=
  ∀ p, (s.ports.get p).outstanding.Nodup
    ∧ (s.heldTags p ++ s.flightTags p ++ s.answeredTags p).Perm (s.ports.get p).outstanding

/-- The credit accounting of each port by its state (R112), its link (R106), and the limits (R114). -/
def State.CreditLaw (s : State) : Prop :=
  (∀ p, (1 ≤ (s.ports.get p).creditLimit ∧ (s.ports.get p).creditLimit ≤ 64)
    ∧ (s.ports.get p).pendingCredits ≤ (s.ports.get p).hostCredits
    ∧ ((s.ports.get p).upTx ≠ .idle → (s.ports.get p).linkUp = true)
    ∧ ((s.ports.get p).upTx = .response → (s.ports.get p).queue ≠ [])
    ∧ match (s.ports.get p).state with
      | .opened => (s.ports.get p).linkUp = true
          ∧ (s.ports.get p).hostCredits + s.storeEntries p = (s.ports.get p).creditLimit
      | .closing => (s.ports.get p).linkUp = true ∧ (s.ports.get p).pendingCredits = 0
          ∧ (s.ports.get p).hostCredits + s.storeEntries p ≤ (s.ports.get p).creditLimit
      | .closed => (s.ports.get p).hostCredits = 0 ∧ (s.ports.get p).outstanding = []
          ∧ s.storeEntries p ≤ 1
      | _ => (s.ports.get p).linkUp = false ∧ (s.ports.get p).hostCredits = 0
          ∧ (s.ports.get p).outstanding = [] ∧ s.storeEntries p ≤ 1)
    ∧ ((List.finRange 4).map fun p => (s.ports.get p).creditLimit).sum ≤ 128

/-- Causes and claims (R146, R147, R149): flags and enables hold only the causes of their group; a claimed set
is part of its group's flags and is empty but for the group whose claim word is being read. -/
def State.ClaimLaw (s : State) : Prop :=
  ∀ g, (s.groups.get g).flags &&& ~~~groupMask g = 0 ∧ (s.groups.get g).enables &&& ~~~groupMask g = 0
    ∧ (s.groups.get g).claimed &&& ~~~(s.groups.get g).flags = 0
    ∧ ((s.groups.get g).claimed ≠ 0 → s.mgmt.claiming = some g)

/-- The frame in progress (R158, R163): IDLE while CS is high; the kind is none until the opcode has named it,
READ while reading and WRITE while writing; a frame failure stands only while writing; a claim word is being shifted
out exactly while a READ frame stands at its address. -/
def State.FrameLaw (s : State) : Prop :=
  (s.pins.csLow = false → s.mgmt.phase = .idle)
    ∧ (match s.mgmt.phase with
      | .address => s.mgmt.kind ≠ none
      | .reading => s.mgmt.kind = some .read
      | .writing => s.mgmt.kind = some .write
      | _ => s.mgmt.kind = none)
    ∧ (s.mgmt.failure ≠ none → s.mgmt.phase = .writing)
    ∧ ∀ g : GroupId, s.mgmt.claiming = some g ↔ (s.mgmt.phase = .reading ∧ s.mgmt.address = (MgmtWord.claim g).addr)

/-- While RST# is low the part is held at its power-on values (R166); the line's own level, the level of CS, the
queue of commands and the draws are not held. -/
def State.ResetLaw (s : State) : Prop :=
  s.pins.rstLow = true →
    s = { State.powerOn false with
      pins := { (State.powerOn false).pins with rstLow := true, csLow := s.pins.csLow }
      freeIndex := s.freeIndex
      pending := s.pending }

/-! ## Words of the statements -/

/-- The part is awake in a WRITE frame that stands at address `a`: the next word is taken there (R161). -/
def State.WritingAt (s : State) (a : Addr) : Prop :=
  s.pins.rstLow = false ∧ s.mgmt.phase = .writing ∧ s.mgmt.address = a

/-- The state after an accepted word that leaves `s` otherwise as it is: the current address has risen by 1, with
the wrap from 0xFFFF to 0x0000 (R161). -/
def State.wordPassed (s : State) : State :=
  { s with mgmt := { s.mgmt with address := s.mgmt.address + 1 } }

/-- The state that R163 gives for a word refused with reason `r`: REJECT is raised in the DEVICE group (its third
cause), and the frame's first refusal sets the frame failure and LAST_REJECT. -/
def State.wordRefused (s : State) (r : Reject) : State :=
  { s with
    groups := s.groups.put 13
      { s.groups.get 13 with
        flags := (s.groups.get 13).flags ||| 4
        claimed := (s.groups.get 13).claimed &&& ~~~4 }
    mgmt :=
      if s.mgmt.failure = none then
        { s.mgmt with
          failure := some (s.mgmt.address, r)
          lastReject := some (s.mgmt.address, r) }
      else s.mgmt }

/-- Class `c`'s record replaced. -/
def State.withClass (s : State) (c : ClassId) (k : ClassRec) : State := { s with classes := s.classes.put c k }

/-- Port `p`'s record replaced. -/
def State.withPort (s : State) (p : Port) (k : PortRec) : State := { s with ports := s.ports.put p k }

/-- A cause set in its group's flags and taken out of the claimed set (R145, R149); `g` and `bit` as R169
numbers groups and causes. -/
def State.withCause (s : State) (g : GroupId) (bit : Nat) : State :=
  { s with
    groups := s.groups.put g
      { s.groups.get g with
        flags := (s.groups.get g).flags ||| BitVec.twoPow 8 bit
        claimed := (s.groups.get g).claimed &&& ~~~BitVec.twoPow 8 bit } }

/-! ## READ frames, written out -/

/-- The word at address `a` is the last of the four words of slot `c` to complete in a frame that began at `start`
(R156): word 3, but for a frame that began at word 1, 2 or 3 of the slot, which comes round to the word before the
one it began at. -/
def LastOfSlot (start : Addr) (c : ClassId) (a : Addr) : Prop :=
  if 0x0700 + 4 * c.val < start.toNat ∧ start.toNat ≤ 0x0703 + 4 * c.val then a.toNat + 1 = start.toNat
  else a.toNat = 0x0703 + 4 * c.val

/-- The word at address `a` stands just before the claim word of group `g` (R160, R169). -/
def BeforeClaim (g : GroupId) (a : Addr) : Prop := a.toNat + 1 = 0x0900 + 4 * g.val

/-- The end of the word at address `a` is the event of a row of the table in the frame in progress, where `a` is no
claim word: it completes a slot (R156), or a claim word is captured after it (R149). -/
def State.EventWord (s : State) (a : Addr) : Prop :=
  (∃ c, LastOfSlot s.mgmt.readStart c a) ∨ ∃ g, BeforeClaim g a

/-- `a` is the first such word that the frame in progress completes, going up from the current address with the wrap
of R160. -/
def State.NextEventWord (s : State) (a : Addr) : Prop :=
  s.EventWord a ∧ ∀ b, s.EventWord b → (a - s.mgmt.address).toNat ≤ (b - s.mgmt.address).toNat

/-- The event of the table that the end of the word in progress of a READ frame is (R149, R156, R160). -/
def State.WordEndsWith (s : State) (i : Instr) : Prop :=
  (i = .claimCompletion ∧ s.mgmt.claiming ≠ none)
    ∨ (s.mgmt.claiming = none
      ∧ ((∃ c, i = .snapshotSlotRead c ∧ LastOfSlot s.mgmt.readStart c s.mgmt.address)
        ∨ ∃ g, i = .claimCapture g ∧ BeforeClaim g s.mgmt.address))

/-! ## The manual's conditions, written out -/

/-- The words that no write reaches: the read-only words of R162. -/
def MgmtWord.readOnly : MgmtWord → Bool
  | .identity => true
  | .status0 => true
  | .status1 => true
  | .lastReject => true
  | .portState _ => true
  | .portCredits _ => true
  | .portLoad _ => true
  | .budget _ => true
  | .classState _ => true
  | .inFlight _ _ => true
  | .slot _ _ => true
  | .claim _ => true
  | .peek _ => true
  | .causeSummary => true
  | _ => false

/-- The head of class `c` is READY (R9): the oldest HELD entry of the class is the oldest of its stream. -/
def State.Ready (s : State) (c : ClassId) : Prop :=
  ∃ e, (s.held.filter (·.cls = c)).head? = some e
    ∧ (s.held.filter fun x => x.port = e.port ∧ x.stream = e.stream).head? = some e

/-- Class `c` is eligible for a normal grant (R44, R22). -/
def State.Eligible (s : State) (c : ClassId) : Prop :=
  s.Ready c ∧ ((s.classes.get c).mode = .unmetered ∨ 0 < (s.classes.get c).budget)

/-- Class `c` is an escape candidate (R44). -/
def State.Escaping (s : State) (c : ClassId) : Prop := c ∈ s.escapeList ∧ s.Ready c

/-- The five conditions of a decision (R43), and RST# high. -/
def State.DecisionDue (s : State) : Prop :=
  s.pins.rstLow = false ∧ s.mem.link = .up ∧ s.mem.dTx = none ∧ (∃ t, s.mem.table.get t = .free)
    ∧ 1 ≤ s.mem.credits ∧ ∃ c, s.Eligible c ∨ s.Escaping c

/-- A request is MALFORMED (R96): a short header, a Length outside 1 to 8, a payload that disagrees with Kind and
Length, or a page crossed. -/
def HostPacket.Malformed (k : HostPacket) (kind : ReqKind) : Prop :=
  k.wholeHeader = false ∨ k.length = 0 ∨ 9 ≤ k.length
    ∨ k.payloadBytes ≠ (if kind = .write then 32 * k.length else 0)
    ∨ k.unitAddr.toNat / 128 ≠ (k.unitAddr.toNat + k.length - 1) / 128

/-- A request lies beyond the memory limit (R97). -/
def State.BeyondLimit (s : State) (k : HostPacket) : Prop :=
  s.flow.memLimit * 32768 ≤ k.unitAddr.toNat + k.length - 1

/-- A flow entry matches a request (R93). -/
def FlowEntry.Matches (e : FlowEntry) (p : Port) (kind : ReqKind) (k : HostPacket) : Prop :=
  e.valid = true ∧ e.portSet.getLsbD p.val = true
    ∧ (e.streamLow.toNat ≤ k.stream.toNat ∧ k.stream.toNat ≤ e.streamHigh.toNat)
    ∧ (e.operation = .any ∨ (e.operation = .read ∧ kind = .read) ∨ (e.operation = .write ∧ kind = .write))
    ∧ (e.windowPresent = false
      ∨ (e.base.toNat ≤ k.unitAddr.toNat ∧ k.unitAddr.toNat + k.length - 1 ≤ e.limit.toNat))

/-- The result of lookup is `a` (R94). -/
def State.LooksUp (s : State) (p : Port) (kind : ReqKind) (k : HostPacket) (a : Action) : Prop :=
  (∃ i, ((s.flow.banks.get s.flow.active).get i).Matches p kind k
      ∧ (∀ j, j < i → ¬((s.flow.banks.get s.flow.active).get j).Matches p kind k)
      ∧ a = ((s.flow.banks.get s.flow.active).get i).action)
    ∨ ((∀ i, ¬((s.flow.banks.get s.flow.active).get i).Matches p kind k)
      ∧ a = (s.ports.get p).defaultAction)

/-- A packet passes step 1 of an arrival (R74): a credit that a CREDIT message has begun to carry, a request kind,
a tag that is not outstanding. -/
def State.Admits (s : State) (p : Port) (k : HostPacket) (kind : ReqKind) : Prop :=
  (s.ports.get p).pendingCredits < (s.ports.get p).hostCredits ∧ k.kind = some kind.packetKind
    ∧ k.hostTag ∉ (s.ports.get p).outstanding

/-- The reason for which steps 2 to 6 refuse a request, with the class it counts against (R95 to R101). -/
def State.RefusedFor (s : State) (p : Port) (kind : ReqKind) (k : HostPacket) :
    RefusalReason → Option ClassId → Prop
  | .malformed, cls => k.Malformed kind ∧ cls = none
  | .range, cls => ¬k.Malformed kind ∧ s.BeyondLimit k ∧ cls = none
  | .denied, cls => ¬k.Malformed kind ∧ ¬s.BeyondLimit k ∧ s.LooksUp p kind k .deny ∧ cls = none
  | .classOff, cls => ¬k.Malformed kind ∧ ¬s.BeyondLimit k
      ∧ ∃ c, s.LooksUp p kind k (.cls c) ∧ (s.classes.get c).admitOn = false ∧ cls = some c
  | .classFull, cls => ¬k.Malformed kind ∧ ¬s.BeyondLimit k
      ∧ ∃ c, s.LooksUp p kind k (.cls c) ∧ (s.classes.get c).admitOn = true
        ∧ (s.classes.get c).depthLimit ≤ (s.queue c).length ∧ cls = some c

/-- Steps 2 to 6 let the request pass into class `c` (R95). -/
def State.AdmittedTo (s : State) (p : Port) (kind : ReqKind) (k : HostPacket) (c : ClassId) : Prop :=
  ¬k.Malformed kind ∧ ¬s.BeyondLimit k ∧ s.LooksUp p kind k (.cls c) ∧ (s.classes.get c).admitOn = true
    ∧ (s.queue c).length < (s.classes.get c).depthLimit

/-- A tenure in force ends at a decision before its choice (R52, R50): its holder is not eligible, or its count is at
or above its limit. -/
def State.TenureEndsFirst (s : State) : Prop :=
  ∃ h, s.arb.holder = some h ∧ (¬s.Eligible h ∨ (s.classes.get h).tenureLimit ≤ s.arb.count)

/-- The end of a tenure (R52, R48): no holder, count 0, and in ROTATE mode the class whose tenure ends is taken out of
its position and placed last. -/
def Arbiter.ended (a : Arbiter) : Arbiter :=
  match a.holder with
  | none => a
  | some h =>
    { a with
      holder := none
      count := 0
      ring := if a.mode = .rotate then a.ring.filter (· ≠ h) ++ [h] else a.ring }

/-- The end of a tenure at the grant that brings its count to the limit (R52). -/
def Arbiter.endedAt (a : Arbiter) (limit : Nat) : Arbiter := if limit ≤ a.count then a.ended else a

/-- A counter after an addition: it saturates at 2^32 - 1 (R152). -/
def counted (n k : Nat) : Nat := if n + k ≤ 4294967295 then n + k else 4294967295

/-! ## Shared effects, written out -/

/-- Credits given to port `p`: host credits and pending count rise together, while the port is OPEN (R113). -/
def PortRec.given (k : PortRec) (n : Nat) : PortRec :=
  if k.state = .opened then
    { k with hostCredits := k.hostCredits + n, pendingCredits := k.pendingCredits + n }
  else k

/-- What a removal of HELD entries does to the starvation monitor (R66): every class whose queue held an entry in
`s` and holds none in `t` has strikes 0, a clock at 0 and no mark; nothing else of any class changes, its active wait
limit among that (R70, read against R67: DEDUCED, log 16). -/
def MonitorFollows (s t : State) : Prop :=
  (∀ c, t.classes.get c =
      if s.queue c ≠ [] ∧ t.queue c = [] then { s.classes.get c with strikes := 0, clock := 0 }
      else s.classes.get c)
    ∧ t.escapeList = s.escapeList.filter fun c => !(decide (s.queue c ≠ [] ∧ t.queue c = []))

/-- Steps 1 to 5 of a port reset of `p` (R109, R16, R137): the HELD entries of `p` are gone without an answer, its
IN_FLIGHT entries are ORPHAN with their remaining time, and every other entry stands.  What the port itself becomes
is left to the event. -/
def CutFrom (s t : State) (p : Port) : Prop :=
  t.held = s.held.filter (·.port ≠ p)
    ∧ MonitorFollows s t
    ∧ (∀ d, t.mem.table.get d =
        match s.mem.table.get d with
        | .inFlight r left => if r.port = p then .orphan r left else .inFlight r left
        | e => e)
    ∧ t.mem = { s.mem with table := t.mem.table }
    ∧ ∀ q, q ≠ p → t.ports.get q = s.ports.get q

/-- Port `p` after steps 3 to 5 of a port reset (R109), with its state, link and retrain request left to the
event. -/
def PortRec.cut (k : PortRec) : PortRec :=
  { k with queue := [], outstanding := [], upTx := .idle, hostCredits := 0, pendingCredits := 0 }

/-- The ABORTED answers to the IN_FLIGHT requests of port `p`, in increasing order of downstream tag (R138). -/
def State.flightAborts (s : State) (p : Port) : List Response :=
  ((List.finRange 64).filterMap fun t =>
    match s.mem.table.get t with
    | .inFlight r _ => if r.port = p then some r.hostTag else none
    | _ => none).map fun h => ⟨h, .aborted⟩

/-- The HELD entries of port `p` among those that `gone` holds of, in the order of taking. -/
def State.heldOf (s : State) (p : Port) (gone : StoreEntry → Bool) : List StoreEntry :=
  s.held.filter fun e => gone e && e.port = p

/-- The ABORTED answers that the store gives for removed entries of port `p`: one each, in the order of taking,
while the port is OPEN or CLOSING (R14, R19). -/
def State.heldAborts (s : State) (p : Port) (gone : StoreEntry → Bool) : List Response :=
  if (s.ports.get p).state = .opened ∨ (s.ports.get p).state = .closing then
    (s.heldOf p gone).map fun e => ⟨e.hostTag, .aborted⟩
  else []

/-- How many entries of port `p` an abandoned send frees: the ISSUING one, or none (R13). -/
def State.issuingOf (s : State) (p : Port) : Nat := (s.issuing.toList.filter (·.port = p)).length

/-- The wait clock of class `c` is RUNNING (R61). -/
abbrev State.Runs (s : State) (c : ClassId) : Prop :=
  s.queue c ≠ [] ∧ (s.classes.get c).activeWait ≠ 0 ∧ (s.classes.get c).strikes ≠ 2 ∧ s.mem.link = .up

/-- Steps 2 to 5 of a memory link loss (R138, R13): every tag is FREE, no entry is ISSUING, the D transmitter is
idle and no credit is held; the IN_FLIGHT requests are answered ABORTED and the credit of an abandoned send goes back
to its port if that is OPEN; a RUNNING wait clock whose expiry has not been taken is PAUSED one tick short of its
limit (R68), every other keeps its value (R61).  The link state and the retrain request are left to the event. -/
def ClearedDownstream (s t : State) : Prop :=
  (∀ d, t.mem.table.get d = .free)
    ∧ t.mem = { s.mem with
        table := t.mem.table, dTx := none, credits := 0, link := t.mem.link, retrain := t.mem.retrain }
    ∧ t.issuing = none
    ∧ (∀ p, t.ports.get p =
        ({ s.ports.get p with queue := (s.ports.get p).queue ++ s.flightAborts p }).given (s.issuingOf p))
    ∧ ∀ c, t.classes.get c = { s.classes.get c with
        clock := if s.Runs c ∧ (s.classes.get c).activeWait ≤ (s.classes.get c).clock
          then (s.classes.get c).activeWait - 1 else (s.classes.get c).clock }

end Sys2Proof.Machine
end

