-- ==== Sys2Proof/Certificates/Slice0/Obligations.lean ====
section
/-! DEFINITION. Certificates/Slice0/Obligations.lean: the statements for the provers.  A command's statement
gives its whole next state: what it does not name, it leaves as it is. -/

open Sys2Proof Sys2Proof.Machine

/-! ## The step, reset and the tick -/

/-- A step takes the command at the front of the queue and is that command on the state with the queue's
rest. -/
def Obligations.StepRunsFront : Prop :=
  ∀ (c : Instr) (rest : List Instr) (s : State), s.pending = c :: rest →
    step s = exec c { s with pending := rest }

/-- No command of the table ends in a fault or a refusal, in any state: each answers a next state.  It leaves the queue
of waiting commands as it is, and draws from the free values only go forward.  What the state is, the statements of
the commands say; that a command outside the states of its event has a next state too is the model's choice (log 2),
and the queue and the draws are the model's own fields (logs 6 and 9). -/
def Obligations.CommandsNeverStop : Prop :=
  ∀ (c : Instr) (s : State),
    ∃ t, exec c s = .next t ∧ t.pending = s.pending ∧ s.freeIndex ≤ t.freeIndex

/-- What the manual gives each block after power-on (R20, R41, R58, R70, R84, R105, R123, R143, R157, R166), with
OPENSTRAP sampled at the level `b`; `State.reset` is the part with OPENSTRAP low (the model's choice, log 1). -/
def Obligations.PowerOnValues : Prop :=
  State.reset = State.powerOn false ∧
  ∀ b : Bool,
    (State.powerOn b).held = [] ∧ (State.powerOn b).issuing = none ∧ (State.powerOn b).escapeList = []
    ∧ (∀ p, (State.powerOn b).ports.get p =
      { state := if b = true then .waiting else .disabled, linkUp := false
        linkRequest := if b = true then .permit else .holdDown, retrain := false, creditLimit := 32
        defaultAction := .cls 0, hostCredits := 0, pendingCredits := 0, outstanding := [], queue := []
        upTx := .idle, requestsTaken := 0, requestsRefused := 0, protocolFaults := 0 })
    ∧ (∀ c, (State.powerOn b).classes.get c =
      { mode := .unmetered, allowance := 0, budget := 0, admitOn := decide (c = 0), depthLimit := 128
        tenureLimit := 4, writtenWait := 0, activeWait := 0, clock := 0, strikes := 0, slot := none
        grants := 0, grantedUnits := 0, escapeGrants := 0, classRefusals := 0 })
    ∧ (State.powerOn b).epoch = { activeExp := 10, writtenExp := 10, time := 0, counter := 0 }
    ∧ (State.powerOn b).arb =
      { ring := [0, 1, 2, 3, 4, 5, 6, 7], mode := .fixed, holder := none, count := 0 }
    ∧ (∀ k i, ((State.powerOn b).flow.banks.get k).get i =
      { valid := false, portSet := 0, streamLow := 0, streamHigh := 0, operation := .any
        windowPresent := false, base := 0, limit := 0, action := .cls 0 })
    ∧ (State.powerOn b).flow.active = 0 ∧ (State.powerOn b).flow.memLimit = 65536
    ∧ (∀ t, (State.powerOn b).mem.table.get t = .free)
    ∧ (State.powerOn b).mem.link = .down ∧ (State.powerOn b).mem.announced = 0
    ∧ (State.powerOn b).mem.credits = 0 ∧ (State.powerOn b).mem.timeout = 2000
    ∧ (State.powerOn b).mem.quarantineLevel = 8 ∧ (State.powerOn b).mem.dTx = none
    ∧ (∀ n, (State.powerOn b).counter n = 0)
    ∧ (∀ g, (State.powerOn b).groups.get g = { flags := 0, enables := 0, claimed := 0 })
    ∧ (State.powerOn b).mgmt.phase = .idle ∧ (State.powerOn b).mgmt.kind = none
    ∧ (State.powerOn b).mgmt.failure = none ∧ (State.powerOn b).mgmt.result = none
    ∧ (State.powerOn b).mgmt.lastReject = none ∧ (State.powerOn b).mgmt.claiming = none

/-- RST# (R166): its fall holds every block at the power-on values with the links held down, its release starts the
blocks from them with OPENSTRAP sampled, and while it is low every other command does nothing, but for the level
of CS, which the controller drives (log 15, as are the ports DISABLED with OPENSTRAP taken low meanwhile).  The queue,
the draws and the level of CS are not the part's to reset (log 9); the captured bytes and addresses of the management
link, to which the manual gives no value, are 0 (log 4). -/
def Obligations.ResetLine : Prop :=
  (∀ s : State, exec .rstAssert s = .next { State.powerOn false with
      pins := { rstLow := true, csLow := s.pins.csLow, openstrap := false, frameSample := none }
      freeIndex := s.freeIndex
      pending := s.pending })
  ∧ (∀ (b : Bool) (s : State), s.pins.rstLow = true →
      exec (.rstRelease b) s = .next { State.powerOn b with
        pins := { rstLow := false, csLow := s.pins.csLow, openstrap := b, frameSample := none }
        freeIndex := s.freeIndex
        pending := s.pending })
  ∧ (∀ s : State, s.pins.rstLow = true →
      exec .csFall s = .next { s with pins := { s.pins with csLow := true } }
      ∧ exec .csRise s = .next { s with pins := { s.pins with csLow := false } })
  ∧ ∀ (c : Instr) (s : State), s.pins.rstLow = true → c ≠ .rstAssert → (∀ b, c ≠ .rstRelease b) →
      c ≠ .csFall → c ≠ .csRise → exec c s = .next s

/-- The 1 µs base tick, which is what a step does when no command waits (the model's choice, log 3).  Every RUNNING
wait clock rises by 1 up to its limit and every remaining time falls by 1 (R61, R131); the epoch time rises by 1, but
stays one tick short of the mid-epoch point and of the boundary, whose events move it (R34; log 7).  Where the free
pace of SCK ends a word of a READ frame whose end is no event of the table, the frame reads on (R160; log 10).  The
event of every timer that has come to its end, and of the word that ends, waits in the queue: each once, in an order
that is left free. -/
def Obligations.TickMovesTimers : Prop :=
  ∀ s : State, s.pending = [] → s.pins.rstLow = false →
    let wordEnds := s.mgmt.phase = .reading ∧ Config.wordEnds s.freeIndex = true
    ∃ t, step s = .next t
    ∧ (t = { s with
        classes := t.classes
        epoch := { s.epoch with time := t.epoch.time }
        mem := { s.mem with table := t.mem.table }
        mgmt := { s.mgmt with address := t.mgmt.address, readWord := t.mgmt.readWord }
        freeIndex := s.freeIndex + 1
        pending := t.pending })
    ∧ (∀ c, t.classes.get c = { s.classes.get c with
        clock := if s.Runs c ∧ (s.classes.get c).clock < (s.classes.get c).activeWait
          then (s.classes.get c).clock + 1 else (s.classes.get c).clock })
    ∧ t.epoch.time = (if s.epoch.time + 1 = 2 ^ (s.epoch.activeExp - 1)
        ∨ 2 ^ s.epoch.activeExp ≤ s.epoch.time + 1 then s.epoch.time else s.epoch.time + 1)
    ∧ (∀ d, t.mem.table.get d = match s.mem.table.get d with
        | .inFlight r (some n) => .inFlight r (some (n - 1))
        | .orphan r (some n) => .orphan r (some (n - 1))
        | e => e)
    ∧ (wordEnds → (∀ i, ¬s.WordEndsWith i) →
        t.mgmt.address = s.mgmt.address + 1 ∧ t.mgmt.readWord = s.readAt (s.mgmt.address + 1))
    ∧ ((¬wordEnds ∨ ∃ i, s.WordEndsWith i) → t.mgmt = s.mgmt)
    ∧ t.pending.Nodup
    ∧ ∀ i, i ∈ t.pending ↔
        (i = .epochBoundary ∧ 2 ^ s.epoch.activeExp ≤ s.epoch.time + 1)
        ∨ (i = .midEpochPoint ∧ s.epoch.time + 1 = 2 ^ (s.epoch.activeExp - 1)
          ∧ s.epoch.time + 1 < 2 ^ s.epoch.activeExp)
        ∨ (∃ c, i = .waitClockExpiry c ∧ s.Runs c
          ∧ (s.classes.get c).activeWait ≤ (s.classes.get c).clock + 1)
        ∨ (∃ d n, i = .entryTimeout d ∧ (s.mem.table.get d).remaining = some n ∧ n ≤ 1)
        ∨ (wordEnds ∧ s.WordEndsWith i)

/-! ## Configuration words -/

/-- MODE_WRITE and ALLOWANCE_WRITE (R30, R31): entering a mode sets B to A, or to the larger half of A in HALVED
mode, without debt, and frees the snapshot slot; an allowance write sets A and lowers B to it if above. -/
def Obligations.BudgetWordWrites : Prop :=
  ∀ (c : ClassId) (w : Word) (s : State),
    (s.WritingAt (BitVec.ofNat 16 (0x0200 + 16 * c.val)) →
      (∀ m : Mode, w.toNat = m.code →
        exec (.modeWrite c w) s = .next (s.withClass c { s.classes.get c with
          mode := m
          budget := if m = .halved
            then (s.classes.get c).allowance - (s.classes.get c).allowance / 2
            else (s.classes.get c).allowance
          slot := none }).wordPassed)
      ∧ (5 ≤ w.toNat → exec (.modeWrite c w) s = .next (s.wordRefused .badValue).wordPassed))
    ∧ (s.WritingAt (BitVec.ofNat 16 (0x0201 + 16 * c.val)) →
      (w.toNat ≤ 65535 →
        exec (.allowanceWrite c w) s = .next (s.withClass c { s.classes.get c with
          allowance := w.toNat
          budget := if (w.toNat : Int) < (s.classes.get c).budget then w.toNat
            else (s.classes.get c).budget }).wordPassed)
      ∧ (65535 < w.toNat → exec (.allowanceWrite c w) s = .next (s.wordRefused .badValue).wordPassed))

/-- The words that hold one number or code and nothing else: ADMIT, DEPTH_LIMIT and TENURE_LIMIT of a class,
DEFAULT_CLASS of a port, MEM_LIMIT, TIMEOUT and QUARANTINE_LEVEL (R99, R100, R53, R94, R97, R131, R136): a value of
the range is set at once, any other is refused with BAD_VALUE. -/
def Obligations.NumberWordWrites : Prop :=
  ∀ (c : ClassId) (p : Port) (w : Word) (s : State),
    (s.WritingAt (BitVec.ofNat 16 (0x0203 + 16 * c.val)) →
      exec (.admitWrite c w) s = .next
        (if w.toNat ≤ 1 then (s.withClass c { s.classes.get c with admitOn := decide (w.toNat = 1) }).wordPassed
        else (s.wordRefused .badValue).wordPassed))
    ∧ (s.WritingAt (BitVec.ofNat 16 (0x0204 + 16 * c.val)) →
      exec (.depthLimitWrite c w) s = .next
        (if 1 ≤ w.toNat ∧ w.toNat ≤ 128
        then (s.withClass c { s.classes.get c with depthLimit := w.toNat }).wordPassed
        else (s.wordRefused .badValue).wordPassed))
    ∧ (s.WritingAt (BitVec.ofNat 16 (0x0205 + 16 * c.val)) →
      exec (.tenureLimitWrite c w) s = .next
        (if 1 ≤ w.toNat ∧ w.toNat ≤ 16
        then (s.withClass c { s.classes.get c with tenureLimit := w.toNat }).wordPassed
        else (s.wordRefused .badValue).wordPassed))
    ∧ (s.WritingAt (BitVec.ofNat 16 (0x0102 + 16 * p.val)) →
      (∀ d : ClassId, w.toNat = d.val →
        exec (.defaultClassWrite p w) s = .next
          (s.withPort p { s.ports.get p with defaultAction := .cls d }).wordPassed)
      ∧ (w.toNat = 8 → exec (.defaultClassWrite p w) s = .next
          (s.withPort p { s.ports.get p with defaultAction := .deny }).wordPassed)
      ∧ (8 < w.toNat → exec (.defaultClassWrite p w) s = .next (s.wordRefused .badValue).wordPassed))
    ∧ (s.WritingAt 0x0004 →
      exec (.memLimitWrite w) s = .next
        (if 1 ≤ w.toNat ∧ w.toNat ≤ 65536
        then ({ s with flow := { s.flow with memLimit := w.toNat } } : State).wordPassed
        else (s.wordRefused .badValue).wordPassed))
    ∧ (s.WritingAt 0x0005 →
      exec (.timeoutWrite w) s = .next
        (if w.toNat ≤ 65535 then ({ s with mem := { s.mem with timeout := w.toNat } } : State).wordPassed
        else (s.wordRefused .badValue).wordPassed))
    ∧ (s.WritingAt 0x0006 →
      exec (.quarantineLevelWrite w) s = .next
        (if 1 ≤ w.toNat ∧ w.toNat ≤ 64
        then ({ s with mem := { s.mem with quarantineLevel := w.toNat } } : State).wordPassed
        else (s.wordRefused .badValue).wordPassed))

/-- WAIT_LIMIT_WRITE (R67): 0 turns the monitor off for the class; a value over an active limit of 0 becomes
active at once and the clock restarts; any other value changes the written limit alone. -/
def Obligations.WaitLimitWrites : Prop :=
  ∀ (c : ClassId) (w : Word) (s : State), s.WritingAt (BitVec.ofNat 16 (0x0206 + 16 * c.val)) →
    (65535 < w.toNat → exec (.waitLimitWrite c w) s = .next (s.wordRefused .badValue).wordPassed)
    ∧ (w.toNat = 0 → exec (.waitLimitWrite c w) s = .next
        ({ s.withClass c { s.classes.get c with
            writtenWait := 0, activeWait := 0, clock := 0, strikes := 0 } with
          escapeList := s.escapeList.filter (· ≠ c) } : State).wordPassed)
    ∧ (1 ≤ w.toNat → w.toNat ≤ 65535 → (s.classes.get c).activeWait = 0 →
        exec (.waitLimitWrite c w) s = .next (s.withClass c { s.classes.get c with
          writtenWait := w.toNat, activeWait := w.toNat, clock := 0 }).wordPassed)
    ∧ (1 ≤ w.toNat → w.toNat ≤ 65535 → (s.classes.get c).activeWait ≠ 0 →
        exec (.waitLimitWrite c w) s = .next
          (s.withClass c { s.classes.get c with writtenWait := w.toNat }).wordPassed)

/-- DEVICE_CONFIG_WRITE (R167, R37, R48): the word is checked whole; an exponent of 4 to 20 sets the written
exponent and the arbitration mode, any other leaves both. -/
def Obligations.DeviceConfigWrites : Prop :=
  ∀ (w : Word) (s : State), s.WritingAt 0x0001 →
    exec (.deviceConfigWrite w) s = .next
      (if 4 ≤ w.toNat % 32 ∧ w.toNat % 32 ≤ 20 then
        ({ s with
          epoch := { s.epoch with writtenExp := w.toNat % 32 }
          arb := { s.arb with mode := if w.getLsbD 8 = true then .rotate else .fixed } } : State).wordPassed
      else (s.wordRefused .badValue).wordPassed)

/-- RING_WRITE (R47): the word is checked as a whole; eight different numbers of 0 to 7 become the ring, position by
position, and any other word is refused with BAD_VALUE. -/
def Obligations.RingWrites : Prop :=
  ∀ (w : Word) (s : State), s.WritingAt 0x0007 →
    ((∀ i : Fin 8, w.toNat / 16 ^ i.val % 16 < 8)
      ∧ (∀ i j : Fin 8, w.toNat / 16 ^ i.val % 16 = w.toNat / 16 ^ j.val % 16 → i = j) →
      ∃ ring : List ClassId, ring.length = 8
        ∧ (∀ i : Fin 8, ring[i.val]?.map Fin.val = some (w.toNat / 16 ^ i.val % 16))
        ∧ exec (.ringWrite w) s = .next
          ({ s with arb := { s.arb with ring := ring } } : State).wordPassed)
    ∧ (¬((∀ i : Fin 8, w.toNat / 16 ^ i.val % 16 < 8)
      ∧ ∀ i j : Fin 8, w.toNat / 16 ^ i.val % 16 = w.toNat / 16 ^ j.val % 16 → i = j) →
      exec (.ringWrite w) s = .next (s.wordRefused .badValue).wordPassed)

/-- FLOW_ENTRY_WRITE (R88, R89): a word of the active bank is refused with WRONG_STATE; then a word 3 whose
Operation or Action field names nothing, with BAD_VALUE; then a word that would leave a valid entry with its streams
or its window inverted, with BAD_VALUE; any other word replaces the fields it holds, bit 31 of words 1 and 2 being
ignored. -/
def Obligations.FlowEntryWrites : Prop :=
  ∀ (b : Bank) (i : EntryIdx) (w : Word) (s : State),
    let e := (s.flow.banks.get b).get i
    let at' := fun k : Nat => s.WritingAt (BitVec.ofNat 16 (0x0400 + 0x0100 * b.val + 4 * i.val + k))
    let inverted := fun x : FlowEntry => x.valid && (decide (x.streamHigh.toNat < x.streamLow.toNat)
      || (x.windowPresent && decide (x.limit.toNat < x.base.toNat)))
    let put := fun x : FlowEntry => ({ s with
      flow := { s.flow with banks := s.flow.banks.put b ((s.flow.banks.get b).put i x) } } : State).wordPassed
    let refused := (s.wordRefused .badValue).wordPassed
    let outcome := fun x : FlowEntry => Host.Outcome.next (φ := Fault) (ρ := Refusal)
      (if inverted x = true then refused else put x)
    (∀ k : Fin 4, at' k.val → b = s.flow.active →
      exec (.flowEntryWrite b i k w) s = .next (s.wordRefused .wrongState).wordPassed)
    ∧ (b ≠ s.flow.active → at' 0 → exec (.flowEntryWrite b i 0 w) s =
        outcome { e with streamLow := w.extractLsb' 0 4, streamHigh := w.extractLsb' 4 4 })
    ∧ (b ≠ s.flow.active → at' 1 → exec (.flowEntryWrite b i 1 w) s =
        outcome { e with base := w.extractLsb' 0 31 })
    ∧ (b ≠ s.flow.active → at' 2 → exec (.flowEntryWrite b i 2 w) s =
        outcome { e with limit := w.extractLsb' 0 31 })
    ∧ (b ≠ s.flow.active → at' 3 →
      (∀ (op : Operation) (a : Action), w.toNat / 4 % 4 = op.code → w.toNat / 256 % 16 = a.code →
        exec (.flowEntryWrite b i 3 w) s = outcome { e with
          valid := w.getLsbD 0, windowPresent := w.getLsbD 1, operation := op
          portSet := w.extractLsb' 4 4, action := a })
      ∧ (w.toNat / 4 % 4 = 3 ∨ 8 < w.toNat / 256 % 16 →
        exec (.flowEntryWrite b i 3 w) s = .next refused))

/-- CREDIT_LIMIT_WRITE (R114): value, then port state, then sum; an accepted word sets the limit and neither
gives nor takes a credit. -/
def Obligations.CreditLimitWrites : Prop :=
  ∀ (p : Port) (w : Word) (s : State), s.WritingAt (BitVec.ofNat 16 (0x0101 + 16 * p.val)) →
    let open' := (s.ports.get p).state = .opened ∨ (s.ports.get p).state = .closing
    let others := ((List.finRange 4).map fun q => if q = p then 0 else (s.ports.get q).creditLimit).sum
    (w.toNat = 0 ∨ 64 < w.toNat →
      exec (.creditLimitWrite p w) s = .next (s.wordRefused .badValue).wordPassed)
    ∧ (1 ≤ w.toNat → w.toNat ≤ 64 → open' →
      exec (.creditLimitWrite p w) s = .next (s.wordRefused .wrongState).wordPassed)
    ∧ (1 ≤ w.toNat → w.toNat ≤ 64 → ¬open' → 128 < w.toNat + others →
      exec (.creditLimitWrite p w) s = .next (s.wordRefused .badValue).wordPassed)
    ∧ (1 ≤ w.toNat → w.toNat ≤ 64 → ¬open' → w.toNat + others ≤ 128 →
      exec (.creditLimitWrite p w) s = .next
        (s.withPort p { s.ports.get p with creditLimit := w.toNat }).wordPassed)

/-- ENABLE_WRITE and COUNTER_WRITE (R147, R153): both are accepted whatever they hold.  An enable word sets every
enable of its group, bits that hold no cause being ignored; a counter word sets its counter to 0 and changes no
other. -/
def Obligations.EnableAndCounterWrites : Prop :=
  (∀ (g : GroupId) (w : Word) (s : State), s.WritingAt (BitVec.ofNat 16 (0x0902 + 4 * g.val)) →
    exec (.enableWrite g w) s = .next
      ({ s with groups := s.groups.put g { s.groups.get g with
          enables := w.extractLsb' 0 8 &&&
            (if g.val < 4 then 0x1F else if g.val < 12 then 0x0F else if g.val = 12 then 0xFF else 0x07) } } :
        State).wordPassed)
  ∧ ∀ (n : CounterId) (w : Word) (s : State), s.WritingAt (MgmtWord.counter n).addr →
      ∃ t : State, exec (.counterWrite n w) s = .next t.wordPassed
        ∧ t = { s with
            classes := t.classes, ports := t.ports
            mem := { s.mem with
              timeouts := t.mem.timeouts, lateDiscarded := t.mem.lateDiscarded
              unexpectedResponses := t.mem.unexpectedResponses, memoryErrors := t.mem.memoryErrors } }
        ∧ (∀ c, t.classes.get c = { s.classes.get c with
            grants := (t.classes.get c).grants, grantedUnits := (t.classes.get c).grantedUnits
            escapeGrants := (t.classes.get c).escapeGrants, classRefusals := (t.classes.get c).classRefusals })
        ∧ (∀ p, t.ports.get p = { s.ports.get p with
            requestsTaken := (t.ports.get p).requestsTaken, requestsRefused := (t.ports.get p).requestsRefused
            protocolFaults := (t.ports.get p).protocolFaults })
        ∧ ∀ m, t.counter m = if m = n then 0 else s.counter m

/-- WORD_WRITE (R161, R162, R164): a word taken at an address is the command of the row that owns the address (one
taken at TIMEOUT, say, sets the response timeout), which is the model's reading of the row (log 11); at a read-only word or an unmapped address it is refused with
BAD_ADDRESS; at COMMAND its code is in bits 7 to 0 and its argument in bits 15 to 8, and a code that names no command
is refused with BAD_VALUE, the address staying. -/
def Obligations.WordWriteIsItsRow : Prop :=
  ∀ (w : Word) (s : State),
    (∀ c : ClassId,
      (s.WritingAt (MgmtWord.mode c).addr → exec (.wordWrite w) s = exec (.modeWrite c w) s)
      ∧ (s.WritingAt (MgmtWord.allowance c).addr → exec (.wordWrite w) s = exec (.allowanceWrite c w) s)
      ∧ (s.WritingAt (MgmtWord.admitOn c).addr → exec (.wordWrite w) s = exec (.admitWrite c w) s)
      ∧ (s.WritingAt (MgmtWord.depthLimit c).addr → exec (.wordWrite w) s = exec (.depthLimitWrite c w) s)
      ∧ (s.WritingAt (MgmtWord.tenureLimit c).addr → exec (.wordWrite w) s = exec (.tenureLimitWrite c w) s)
      ∧ (s.WritingAt (MgmtWord.waitLimit c).addr → exec (.wordWrite w) s = exec (.waitLimitWrite c w) s))
    ∧ (∀ p : Port,
      (s.WritingAt (MgmtWord.creditLimit p).addr → exec (.wordWrite w) s = exec (.creditLimitWrite p w) s)
      ∧ (s.WritingAt (MgmtWord.defaultClass p).addr →
        exec (.wordWrite w) s = exec (.defaultClassWrite p w) s))
    ∧ (s.WritingAt MgmtWord.deviceConfig.addr → exec (.wordWrite w) s = exec (.deviceConfigWrite w) s)
    ∧ (s.WritingAt MgmtWord.memLimit.addr → exec (.wordWrite w) s = exec (.memLimitWrite w) s)
    ∧ (s.WritingAt MgmtWord.timeout.addr → exec (.wordWrite w) s = exec (.timeoutWrite w) s)
    ∧ (s.WritingAt 0x0005 → w.toNat ≤ 65535 →
      exec (.wordWrite w) s =
        .next ({ s with mem := { s.mem with timeout := w.toNat } } : State).wordPassed)
    ∧ (s.WritingAt MgmtWord.quarantineLevel.addr → exec (.wordWrite w) s = exec (.quarantineLevelWrite w) s)
    ∧ (s.WritingAt MgmtWord.ring.addr → exec (.wordWrite w) s = exec (.ringWrite w) s)
    ∧ (∀ b i k, s.WritingAt (MgmtWord.flowEntry b i k).addr →
      exec (.wordWrite w) s = exec (.flowEntryWrite b i k w) s)
    ∧ (∀ n, s.WritingAt (MgmtWord.counter n).addr → exec (.wordWrite w) s = exec (.counterWrite n w) s)
    ∧ (∀ g, s.WritingAt (MgmtWord.enable g).addr → exec (.wordWrite w) s = exec (.enableWrite g w) s)
    ∧ (∀ m : MgmtWord, m.readOnly = true → s.WritingAt m.addr →
      exec (.wordWrite w) s = .next (s.wordRefused .badAddress).wordPassed)
    ∧ (∀ a : Addr, (∀ m : MgmtWord, m.addr ≠ a) → s.WritingAt a →
      exec (.wordWrite w) s = .next (s.wordRefused .badAddress).wordPassed)
    ∧ (s.WritingAt 0x0008 →
      (w.toNat % 256 = 0x01 → exec (.wordWrite w) s = exec (.openPort (w.extractLsb' 8 8)) s)
      ∧ (w.toNat % 256 = 0x02 → exec (.wordWrite w) s = exec (.closePort (w.extractLsb' 8 8)) s)
      ∧ (w.toNat % 256 = 0x03 → exec (.wordWrite w) s = exec (.resetPort (w.extractLsb' 8 8)) s)
      ∧ (w.toNat % 256 = 0x04 → exec (.wordWrite w) s = exec .resetDownstream s)
      ∧ (w.toNat % 256 = 0x05 → exec (.wordWrite w) s = exec (.purgeClass (w.extractLsb' 8 8)) s)
      ∧ (w.toNat % 256 = 0x06 → exec (.wordWrite w) s = exec (.reloadClass (w.extractLsb' 8 8)) s)
      ∧ (w.toNat % 256 = 0x07 → exec (.wordWrite w) s = exec (.setLowest (w.extractLsb' 8 8)) s)
      ∧ (w.toNat % 256 = 0x08 → exec (.wordWrite w) s = exec .swapBanks s)
      ∧ (w.toNat % 256 = 0x09 → exec (.wordWrite w) s = exec (.snapshot (w.extractLsb' 8 8)) s)
      ∧ (w.toNat % 256 = 0x0A → exec (.wordWrite w) s = exec .trafficReset s)
      ∧ (w.toNat % 256 = 0 ∨ 0x0A < w.toNat % 256 →
        exec (.wordWrite w) s = .next (s.wordRefused .badValue)))

/-! ## Commands of the COMMAND word -/

/-- OPEN_PORT and CLOSE_PORT (R107, R108, R113): every port state, and an argument that names no port.  That a port
DISABLED from WAITING keeps no retrain request is the model's choice (log 13). -/
def Obligations.OpenAndClosePort : Prop :=
  ∀ (arg : Byte) (s : State), s.WritingAt 0x0008 →
    (4 ≤ arg.toNat → exec (.openPort arg) s = .next (s.wordRefused .badValue)
      ∧ exec (.closePort arg) s = .next (s.wordRefused .badValue))
    ∧ ∀ p : Port, arg.toNat = p.val →
      let k := s.ports.get p
      (k.state = .disabled →
        exec (.openPort arg) s = .next (s.withPort p { k with state := .waiting, linkRequest := .permit })
        ∧ exec (.closePort arg) s = .next (s.wordRefused .wrongState))
      ∧ (k.state = .closed → k.linkUp = true →
        exec (.openPort arg) s = .next ((s.withPort p { k with
          state := .opened
          hostCredits := k.hostCredits + (k.creditLimit - s.storeEntries p)
          pendingCredits := k.pendingCredits + (k.creditLimit - s.storeEntries p) }).withCause
            (portGroup p) 0))
      ∧ (k.state = .closed → k.linkUp = false →
        exec (.openPort arg) s = .next (s.withPort p { k with state := .waiting }))
      ∧ (k.state = .waiting ∨ k.state = .opened ∨ k.state = .closing →
        exec (.openPort arg) s = .next (s.wordRefused .wrongState))
      ∧ (k.state = .opened → k.outstanding = [] →
        exec (.closePort arg) s = .next ((s.withPort p { k with
          state := .closed, hostCredits := 0, pendingCredits := 0 }).withCause (portGroup p) 1))
      ∧ (k.state = .opened → k.outstanding ≠ [] →
        exec (.closePort arg) s = .next (s.withPort p { k with
          state := .closing, hostCredits := k.hostCredits - k.pendingCredits, pendingCredits := 0 }))
      ∧ (k.state = .waiting →
        exec (.closePort arg) s = .next (s.withPort p { k with
          state := .disabled, linkRequest := .holdDown, retrain := false }))
      ∧ (k.state = .closing ∨ k.state = .closed →
        exec (.closePort arg) s = .next (s.wordRefused .wrongState))

/-- RESET_PORT (R109, R16, R17, R66, R70, R137): in DISABLED and for an argument above 3 the word is refused; in every other
state the port is cut off from what it had in the part, a retrain is requested, OPEN goes to WAITING and CLOSING to
CLOSED, and from CLOSING the CLOSED cause is raised.  The ISSUING entry stays.  A class whose queue the reset empties has strikes and
clock 0 and no mark (R66); that it keeps its active wait limit is read from R70 against R67 (log 16). -/
def Obligations.ResetPortCuts : Prop :=
  ∀ (arg : Byte) (s : State), s.WritingAt 0x0008 →
    (4 ≤ arg.toNat → exec (.resetPort arg) s = .next (s.wordRefused .badValue))
    ∧ ∀ p : Port, arg.toNat = p.val →
      ((s.ports.get p).state = .disabled →
        exec (.resetPort arg) s = .next (s.wordRefused .wrongState))
      ∧ ((s.ports.get p).state ≠ .disabled → ∃ t, exec (.resetPort arg) s = .next t
        ∧ CutFrom s t p
        ∧ t.ports.get p = { (s.ports.get p).cut with
            linkUp := false
            retrain := true
            state := if (s.ports.get p).state = .opened then .waiting
              else if (s.ports.get p).state = .closing then .closed else (s.ports.get p).state }
        ∧ t = { (if (s.ports.get p).state = .closing then s.withCause (portGroup p) 1 else s) with
            held := t.held, classes := t.classes, escapeList := t.escapeList, mem := t.mem
            ports := t.ports })

/-- RESET_DOWNSTREAM (R139): steps 2 to 5 of a memory link loss, the link state TRAINING and a retrain requested,
with no cause raised, in every link state; a RUNNING wait clock is PAUSED (R61, R68). -/
def Obligations.ResetDownstreamClears : Prop :=
  ∀ s : State, s.WritingAt 0x0008 → ∃ t, exec .resetDownstream s = .next t
    ∧ ClearedDownstream s t ∧ t.mem.link = .training ∧ t.mem.retrain = true
    ∧ t = { s with mem := t.mem, issuing := t.issuing, ports := t.ports, classes := t.classes }

/-- PURGE_CLASS (R14, R66, R70): every HELD entry of the class is removed; each is answered ABORTED in the order of
taking while its port is OPEN or CLOSING and gives its credit back while its port is OPEN; the class's monitor
follows its empty queue, with strikes and clock 0 and no mark (R66); the ISSUING entry, the causes and the counters
stand.  That the class keeps its active wait limit is read from R70 against R67 (log 16). -/
def Obligations.PurgeClassEmpties : Prop :=
  ∀ (arg : Byte) (s : State), s.WritingAt 0x0008 →
    (8 ≤ arg.toNat → exec (.purgeClass arg) s = .next (s.wordRefused .badValue))
    ∧ ∀ c : ClassId, arg.toNat = c.val → ∃ t, exec (.purgeClass arg) s = .next t
      ∧ t.held = s.held.filter (·.cls ≠ c)
      ∧ MonitorFollows s t
      ∧ (∀ p, t.ports.get p =
          ({ s.ports.get p with
            queue := (s.ports.get p).queue ++ s.heldAborts p (·.cls = c) }).given
              (s.heldOf p (·.cls = c)).length)
      ∧ t = { s with held := t.held, classes := t.classes, escapeList := t.escapeList, ports := t.ports }

/-- RELOAD_CLASS (R32): a full refill in every mode: B becomes A, plus the debt the class carries; in HALVED mode too
it gives the whole A, and a mid-epoch point that comes next raises B by A/2, up to A. -/
def Obligations.ReloadClassRefills : Prop :=
  ∀ (arg : Byte) (s : State), s.WritingAt 0x0008 →
    (8 ≤ arg.toNat → exec (.reloadClass arg) s = .next (s.wordRefused .badValue))
    ∧ ∀ c : ClassId, arg.toNat = c.val →
      let a := (s.classes.get c).allowance
      let b : Int := if (s.classes.get c).budget < 0 then a + (s.classes.get c).budget else a
      exec (.reloadClass arg) s = .next (s.withClass c { s.classes.get c with budget := b })
      ∧ ((s.classes.get c).mode = .halved → s.epoch.time + 1 = 2 ^ (s.epoch.activeExp - 1) →
        ∃ u, exec .midEpochPoint (s.withClass c { s.classes.get c with budget := b }) = .next u
          ∧ (u.classes.get c).budget = if b + (a / 2 : Nat) ≤ a then b + (a / 2 : Nat) else a)

/-- SET_LOWEST (R46): the ring turns cyclically until class `c` stands at position 7, every class keeping its
cyclic neighbours; where `c` stood there already nothing changes; a class number above 7 is refused with
BAD_VALUE.  Nothing but the ring changes. -/
def Obligations.SetLowestRotates : Prop :=
  ∀ (arg : Byte) (s : State), s.WritingAt 0x0008 →
    (8 ≤ arg.toNat → exec (.setLowest arg) s = .next (s.wordRefused .badValue))
    ∧ ∀ (c : ClassId) (above below : List ClassId), arg.toNat = c.val →
      s.arb.ring = above ++ c :: below → c ∉ above →
      exec (.setLowest arg) s = .next
        { s with arb := { s.arb with ring := below ++ above ++ [c] } }

/-- SWAP_BANKS (R91): the active-bank indicator changes to the other bank and nothing else changes; two in
succession return it; a bank whose entries are all invalid is made active like any other, and every arrival then takes
its port's default. -/
def Obligations.SwapBanksExchanges : Prop :=
  ∀ s : State, s.WritingAt 0x0008 →
    ∃ t, exec .swapBanks s = .next t ∧ t.flow.active ≠ s.flow.active
      ∧ t = { s with flow := { s.flow with active := t.flow.active } }
      ∧ exec .swapBanks t = .next s
      ∧ ((∀ i, ((s.flow.banks.get t.flow.active).get i).valid = false) →
        ∀ p kind k, t.LooksUp p kind k (s.ports.get p).defaultAction)

/-- SNAPSHOT and the slot reads (R154 to R156): a FREE slot of a named class captures the class's values of that
instant, a HELD slot keeps its capture, other classes and everything else stand.  SNAPSHOT_SLOT_READ, in a READ frame
that began before the slot, at it, inside it or after it: where the last of the slot's four words to complete in this
frame is the next word whose end is an event, the slot is FREE and the frame reads on after that word (R160); before
that, while a claim word is shifted out and outside a READ frame nothing changes.  That the row carries the frame over
the ordinary words before its own is the model's choice (log 10). -/
def Obligations.SnapshotSlots : Prop :=
  (∀ (set : Byte) (s : State), s.WritingAt 0x0008 → ∃ t, exec (.snapshot set) s = .next t
    ∧ t = { s with classes := t.classes }
    ∧ ∀ c, t.classes.get c = { s.classes.get c with
        slot := if set.getLsbD c.val = true ∧ (s.classes.get c).slot = none then
            some {
              budget := (s.classes.get c).budget
              queueLength := (s.held.filter (·.cls = c)).length
              strikes := (s.classes.get c).strikes
              mark := decide (c ∈ s.escapeList)
              tenureFlag := decide (s.arb.holder = some c)
              tenureCount := if s.arb.holder = some c then s.arb.count else 0
              epochCounter := s.epoch.counter }
          else (s.classes.get c).slot })
  ∧ ∀ (c : ClassId) (s : State),
      let freed := s.withClass c { s.classes.get c with slot := none }
      let free := s.pins.rstLow = false ∧ s.mgmt.phase = .reading ∧ s.mgmt.claiming = none
      (∀ a, free → LastOfSlot s.mgmt.readStart c a → s.NextEventWord a →
        exec (.snapshotSlotRead c) s = .next { freed with
          mgmt := { s.mgmt with address := a + 1, readWord := freed.readAt (a + 1) } })
      ∧ (¬(free ∧ ∃ a, LastOfSlot s.mgmt.readStart c a ∧ s.NextEventWord a) →
        exec (.snapshotSlotRead c) s = .next s)

/-- TRAFFIC_RESET (R165, R19, R42, R59, R70, R144, R157): HELD requests are answered ABORTED by the store and
IN_FLIGHT ones by the memory port, in one of the two orders of those parts, the same for every port (log 8; each reset
makes one draw, log 9); credits return
to OPEN ports; budgets are restored without debt, the epoch timer and the monitor restart, the tenure ends without a
move of the ring, the slots are FREE, the link trains again; every setting, cause, counter and the management link
stand. -/
def Obligations.TrafficResetClears : Prop :=
  ∀ s : State, s.WritingAt 0x0008 → ∃ t storeFirst, exec .trafficReset s = .next t
    ∧ t.held = [] ∧ t.issuing = none ∧ t.escapeList = []
    ∧ (∀ p, t.ports.get p =
        ({ s.ports.get p with
          queue := (s.ports.get p).queue ++
            if storeFirst = true then s.heldAborts p (fun _ => true) ++ s.flightAborts p
            else s.flightAborts p ++ s.heldAborts p (fun _ => true) }).given (s.storeEntries p))
    ∧ (∀ c, t.classes.get c = { s.classes.get c with
        budget := if (s.classes.get c).mode = .halved
          then (s.classes.get c).allowance - (s.classes.get c).allowance / 2
          else (s.classes.get c).allowance
        activeWait := (s.classes.get c).writtenWait, clock := 0, strikes := 0, slot := none })
    ∧ t.epoch = { s.epoch with activeExp := s.epoch.writtenExp, time := 0, counter := 0 }
    ∧ t.arb = { s.arb with holder := none, count := 0 }
    ∧ (∀ d, t.mem.table.get d = .free)
    ∧ t.mem = { s.mem with
        table := t.mem.table, dTx := none, credits := 0, link := .training, retrain := true }
    ∧ t = { s with
        held := t.held, issuing := t.issuing, escapeList := t.escapeList, ports := t.ports
        classes := t.classes, epoch := t.epoch, arb := t.arb, mem := t.mem, freeIndex := s.freeIndex + 1 }

/-! ## The management link -/

/-- CS_FALL and OPCODE_BYTE (R158, R159): a fall of CS opens the frame and captures the status byte: the result of
the last WRITE frame, the level of ALERT# and the pattern 01010; 0x61 makes it a READ frame, 0x62 a WRITE frame, any
other opcode leaves it VOID.  What SDO carries in each phase (R158 to R161, R166): high impedance while CS is high or
RST# is low; the status byte in OPCODE and the captured word in READING, most significant bit first; 0 bits in WRITING
and in VOID.  Of SDO in ADDRESS and in an ignored frame nothing is said, as the manual says nothing (log 23). -/
def Obligations.FramesOpen : Prop :=
  (∀ s : State, s.pins.rstLow = false → s.pins.csLow = false → ∃ b : Byte,
    exec .csFall s = .next { s with
      pins := { s.pins with csLow := true }
      mgmt := { s.mgmt with phase := .opcode, statusByte := b } }
    ∧ b.extractLsb' 3 5 = 0b01010
    ∧ (b.getLsbD 2 = true ↔ ∃ g, (s.groups.get g).flags &&& (s.groups.get g).enables ≠ 0)
    ∧ (b.extractLsb' 0 2).toNat =
      match s.mgmt.result with
      | none => 0
      | some .badAddress => 1
      | some .badValue => 2
      | some .wrongState => 3)
  ∧ (∀ (b : Byte) (s : State), s.pins.rstLow = false → s.mgmt.phase = .opcode →
      exec (.opcodeByte b) s = .next { s with
        mgmt := if b = 0x61 then { s.mgmt with phase := .address, kind := some .read }
          else if b = 0x62 then { s.mgmt with phase := .address, kind := some .write }
          else { s.mgmt with phase := .void } })
  ∧ ∀ (s : State) (n : Nat),
      (s.pins.csLow = false ∨ s.pins.rstLow = true → s.sdo n = none)
      ∧ (s.pins.csLow = true → s.pins.rstLow = false →
        (s.mgmt.phase = .opcode → n < 8 → s.sdo n = some (s.mgmt.statusByte.getLsbD (7 - n)))
        ∧ (s.mgmt.phase = .reading → n < 32 → s.sdo n = some (s.mgmt.readWord.getLsbD (31 - n)))
        ∧ (s.mgmt.phase = .writing ∨ s.mgmt.phase = .void → s.sdo n = some false))

/-- LAST_ADDRESS_BIT (R158, R160, R149): a WRITE frame goes to WRITING at the address; a READ frame goes to READING
and captures the word there, which at a claim word forms its group's claimed set.  Where the READ frame began is kept,
for the slots that it will complete (R156; log 10). -/
def Obligations.LastAddressBitSetsAddress : Prop :=
  ∀ (a : Addr) (s : State), s.pins.rstLow = false → s.mgmt.phase = .address →
    (s.mgmt.kind = some .write → exec (.lastAddressBit a) s = .next { s with
      mgmt := { s.mgmt with phase := .writing, address := a } })
    ∧ (s.mgmt.kind = some .read → (∀ g : GroupId, a ≠ BitVec.ofNat 16 (0x0900 + 4 * g.val)) →
      exec (.lastAddressBit a) s = .next { s with
        mgmt := { s.mgmt with phase := .reading, address := a, readStart := a, readWord := s.readAt a } })
    ∧ (s.mgmt.kind = some .read → ∀ g : GroupId, a = BitVec.ofNat 16 (0x0900 + 4 * g.val) →
      exec (.lastAddressBit a) s = .next { s with
        mgmt := { s.mgmt with
          phase := .reading, address := a, readStart := a, claiming := some g
          readWord := (s.groups.get g).flags.zeroExtend 32 }
        groups := s.groups.put g { s.groups.get g with claimed := (s.groups.get g).flags } })

/-- CS_RISE (R158, R150, R163): the frame ends in any phase; a claim in progress is abandoned with every flag
kept; a WRITE frame's result is its first refusal, or OK; a READ or VOID frame leaves the result. -/
def Obligations.FramesClose : Prop :=
  ∀ s : State, s.pins.rstLow = false → s.pins.csLow = true → ∃ t, exec .csRise s = .next t
    ∧ t = { s with
        pins := { s.pins with csLow := false }
        groups := t.groups
        mgmt := { s.mgmt with
          phase := .idle, kind := none, claiming := none
          result := if s.mgmt.kind = some .write then s.mgmt.failure.map Prod.snd else s.mgmt.result
          failure := if s.mgmt.kind = some .write then none else s.mgmt.failure } }
    ∧ ∀ g, t.groups.get g =
        if s.mgmt.claiming = some g then { s.groups.get g with claimed := 0 } else s.groups.get g

/-- CLAIM_CAPTURE and CLAIM_COMPLETION (R149, R160): where the word before the claim word is the next of the frame whose
end is an event, CLAIM_CAPTURE takes the frame on to the claim word, shows the flags that are set and makes them the
claimed set; anywhere else it changes nothing (that the row carries the frame over the ordinary words before the claim
word is the model's choice, log 10).  A completion clears exactly the flags of the claimed set, empties it, and the frame reads on at the next address
(not a claim word: the word after a claim word is its group's peek word). -/
def Obligations.ClaimsClearWhatTheyShow : Prop :=
  (∀ (g : GroupId) (s : State),
    let free := s.pins.rstLow = false ∧ s.mgmt.phase = .reading ∧ s.mgmt.claiming = none
    (∀ a, free → BeforeClaim g a → s.NextEventWord a →
      exec (.claimCapture g) s = .next { s with
        mgmt := { s.mgmt with
          address := BitVec.ofNat 16 (0x0900 + 4 * g.val), claiming := some g
          readWord := (s.groups.get g).flags.zeroExtend 32 }
        groups := s.groups.put g { s.groups.get g with claimed := (s.groups.get g).flags } })
    ∧ (¬(free ∧ ∃ a, BeforeClaim g a ∧ s.NextEventWord a) → exec (.claimCapture g) s = .next s))
  ∧ ∀ (g : GroupId) (s : State), s.pins.rstLow = false → s.mgmt.phase = .reading →
      s.mgmt.claiming = some g → s.mgmt.address = BitVec.ofNat 16 (0x0900 + 4 * g.val) →
      exec .claimCompletion s = .next { s with
        groups := s.groups.put g { s.groups.get g with
          flags := (s.groups.get g).flags &&& ~~~(s.groups.get g).claimed, claimed := 0 }
        mgmt := { s.mgmt with
          claiming := none
          address := BitVec.ofNat 16 (0x0901 + 4 * g.val)
          readWord := ((s.groups.get g).flags &&& ~~~(s.groups.get g).claimed).zeroExtend 32 } }

/-! ## Host ports -/

/-- An ARRIVAL_EVENT that the checks turn away (R74, R95 to R101, R116): a packet that fails step 1 is discarded
with FAULT and one protocol fault and nothing else; a request refused at steps 2 to 6 is answered REFUSED with the
reason of the first step that fails, and its credit returns while the port is OPEN. -/
def Obligations.ArrivalsTurnedAway : Prop :=
  ∀ (p : Port) (packet : List Byte) (s : State), s.pins.rstLow = false → (s.ports.get p).linkUp = true →
    ((∀ kind, ¬s.Admits p (readHostPacket packet) kind) →
      exec (.arrivalEvent p packet) s = .next ((s.withPort p { s.ports.get p with
        protocolFaults := counted (s.ports.get p).protocolFaults 1 }).withCause (portGroup p) 3))
    ∧ ∀ kind reason cls, s.Admits p (readHostPacket packet) kind →
      s.RefusedFor p kind (readHostPacket packet) reason cls →
      ∃ t, exec (.arrivalEvent p packet) s = .next t
        ∧ t.ports = s.ports.put p
          (({ s.ports.get p with
            hostCredits := (s.ports.get p).hostCredits - 1
            outstanding := (s.ports.get p).outstanding ++ [(readHostPacket packet).hostTag]
            requestsRefused := counted (s.ports.get p).requestsRefused 1
            queue := (s.ports.get p).queue ++
              [({ hostTag := (readHostPacket packet).hostTag, answer := .refused reason } : Response)] }).given 1)
        ∧ t.groups =
          (match cls with
          | some c => if reason = .classFull
              then ((s.withCause (portGroup p) 4).withCause (classGroup c) 3).groups
              else (s.withCause (portGroup p) 4).groups
          | none => (s.withCause (portGroup p) 4).groups)
        ∧ t.classes =
          (match cls with
          | some c => s.classes.put c { s.classes.get c with
              classRefusals := counted (s.classes.get c).classRefusals 1 }
          | none => s.classes)
        ∧ t = { s with ports := t.ports, groups := t.groups, classes := t.classes }

/-- An ARRIVAL_EVENT that passes every check is taken (R102, R5, R62): the request joins the order of taking with its
fields as received and the class that lookup gives, consumes its credit, makes its tag outstanding, is counted, and
restarts the wait clock of a class whose queue was empty. -/
def Obligations.ArrivalsTaken : Prop :=
  ∀ (p : Port) (packet : List Byte) (s : State) (kind : ReqKind) (c : ClassId),
    s.pins.rstLow = false → (s.ports.get p).linkUp = true →
    s.Admits p (readHostPacket packet) kind → s.AdmittedTo p kind (readHostPacket packet) c →
    exec (.arrivalEvent p packet) s = .next { s with
      held := s.held ++ [{
        port := p, hostTag := (readHostPacket packet).hostTag, stream := (readHostPacket packet).stream
        kind := kind, unitAddr := (readHostPacket packet).unitAddr
        length := (readHostPacket packet).length, data := (readHostPacket packet).payload, cls := c }]
      ports := s.ports.put p { s.ports.get p with
        hostCredits := (s.ports.get p).hostCredits - 1
        outstanding := (s.ports.get p).outstanding ++ [(readHostPacket packet).hostTag]
        requestsTaken := counted (s.ports.get p).requestsTaken 1 }
      classes :=
        if s.held.filter (·.cls = c) = [] then
          s.classes.put c { s.classes.get c with
            clock := 0, activeWait := (s.classes.get c).writtenWait }
        else s.classes }

/-- PORT_LINK_UP and PORT_LINK_LOST (R110, R111, R113, R66, R70): a WAITING port enters OPEN with its credits advertised and
OPENED raised, a CLOSED one stays CLOSED; a lost link cuts the port off as a port reset does, with LINK_LOST, and takes
OPEN to WAITING and CLOSING to CLOSED, from CLOSING with the CLOSED cause too.  That a link that comes up ends a retrain
request is the model's choice (log 13).  A class whose queue the loss empties has strikes and clock 0 and no mark (R66);
that it keeps its active wait limit is read from R70 against R67 (log 16). -/
def Obligations.PortLinkEvents : Prop :=
  ∀ (p : Port) (s : State), s.pins.rstLow = false →
    let k := s.ports.get p
    (k.linkUp = false → k.state = .waiting →
      exec (.portLinkUp p) s = .next ((s.withPort p { k with
        linkUp := true, retrain := false, state := .opened
        hostCredits := k.hostCredits + (k.creditLimit - s.storeEntries p)
        pendingCredits := k.pendingCredits + (k.creditLimit - s.storeEntries p) }).withCause
          (portGroup p) 0))
    ∧ (k.linkUp = false → k.state = .closed →
      exec (.portLinkUp p) s = .next (s.withPort p { k with linkUp := true, retrain := false }))
    ∧ (k.linkUp = true → ∃ t, exec (.portLinkLost p) s = .next t
      ∧ CutFrom s t p
      ∧ t.ports.get p = { k.cut with
          linkUp := false
          state := if k.state = .opened then .waiting
            else if k.state = .closing then .closed else k.state }
      ∧ t = { (if k.state = .closing
            then (s.withCause (portGroup p) 2).withCause (portGroup p) 1
            else s.withCause (portGroup p) 2) with
          held := t.held, classes := t.classes, escapeList := t.escapeList, mem := t.mem
          ports := t.ports })

/-- UPSTREAM_SEND_BEGIN and CREDIT_SEND_END (R77): an idle transmitter sends the whole pending count in a CREDIT
message before any response, else the response at the head of the queue; the end of a CREDIT message leaves it
idle. -/
def Obligations.UpstreamTransmitter : Prop :=
  ∀ (p : Port) (s : State), s.pins.rstLow = false →
    let k := s.ports.get p
    (k.linkUp = true → k.upTx = .idle →
      exec (.upstreamSendBegin p) s = .next
        (if 0 < k.pendingCredits then
          s.withPort p { k with upTx := .credit k.pendingCredits, pendingCredits := 0 }
        else if k.queue ≠ [] then s.withPort p { k with upTx := .response } else s))
    ∧ ∀ n, k.upTx = .credit n →
      exec (.creditSendEnd p) s = .next (s.withPort p { k with upTx := .idle })

/-- RESPONSE_SEND_END (R118): the response leaves the head of the queue and its tag leaves the outstanding-tag set;
a CLOSING port that has none left enters CLOSED, its host credits withdrawn and CLOSED raised. -/
def Obligations.ResponseSendEnds : Prop :=
  ∀ (p : Port) (s : State) (r : Response) (rest : List Response), s.pins.rstLow = false →
    (s.ports.get p).upTx = .response → (s.ports.get p).queue = r :: rest →
    let k := { s.ports.get p with
      upTx := .idle, queue := rest, outstanding := (s.ports.get p).outstanding.erase r.hostTag }
    exec (.responseSendEnd p) s = .next
      (if k.state = .closing ∧ k.outstanding = [] then
        (s.withPort p { k with state := .closed, hostCredits := 0 }).withCause (portGroup p) 1
      else s.withPort p k)

/-! ## The arbiter -/

/-- GRANT_DECISION, the choice (R49, R50, R52, R64): an escape candidate, the earliest marked first; else, on the ring
as a tenure that ends at the decision leaves it, the tenure holder while no class above it is eligible; else the
highest-ranked eligible class.  The head of the chosen class is ISSUING afterwards, under the lowest FREE tag. -/
def Obligations.DecisionsChoose : Prop :=
  ∀ s : State, s.DecisionDue → s.RingLaw → ∃ (t : State) (c : ClassId) (e : StoreEntry) (d : DTag),
    exec .grantDecision s = .next t
    ∧ (s.held.filter (·.cls = c)).head? = some e ∧ t.issuing = some e
    ∧ t.mem.dTx = some { tag := d, entry := e } ∧ s.mem.table.get d = .free ∧ (∀ d', d' < d → s.mem.table.get d' ≠ .free)
    ∧ ((∃ x, s.Escaping x) → s.Escaping c
        ∧ ∃ before after, s.escapeList = before ++ c :: after ∧ ∀ x ∈ before, ¬s.Ready x)
    ∧ ((¬∃ x, s.Escaping x) → s.Eligible c
        ∧ (∀ h, s.arb.holder = some h → s.Eligible h → s.arb.count < (s.classes.get h).tenureLimit →
            (∀ x ∈ s.arb.ring.takeWhile (· ≠ h), ¬s.Eligible x) → c = h)
        ∧ (∀ h, s.arb.holder = some h → s.Eligible h → s.arb.count < (s.classes.get h).tenureLimit →
            (∃ x ∈ s.arb.ring.takeWhile (· ≠ h), s.Eligible x) →
            ∀ x ∈ s.arb.ring.takeWhile (· ≠ c), ¬s.Eligible x)
        ∧ (∀ h, s.arb.holder = some h →
            ¬(s.Eligible h ∧ s.arb.count < (s.classes.get h).tenureLimit) →
            ∀ x ∈ (if s.arb.mode = .rotate then s.arb.ring.filter (· ≠ h) ++ [h]
              else s.arb.ring).takeWhile (· ≠ c), ¬s.Eligible x)
        ∧ (s.arb.holder = none → ∀ x ∈ s.arb.ring.takeWhile (· ≠ c), ¬s.Eligible x))

/-- GRANT_DECISION, the grant's parts (R54, R55, R11, R24 to R26, R51, R52, R65 to R67, R78, R127, R130): what one grant
of class `c` under the lowest FREE tag `d` does to each block; everything else stands.  That the written wait limit
becomes active at a grant that empties the queue too is read from R67 (log 16), and that a tenure limit of 1 ends the
tenure at the grant that begins it from R52 (log 17). -/
def Obligations.GrantsReachEveryBlock : Prop :=
  ∀ s : State, s.DecisionDue → s.RingLaw → ∃ (t : State) (c : ClassId) (e : StoreEntry) (d : DTag) (escape : Bool),
    exec .grantDecision s = .next t
    ∧ (escape = true ↔ ∃ x, s.Escaping x)
    ∧ (∃ before after, s.held = before ++ e :: after ∧ e.cls = c ∧ (∀ x ∈ before, x.cls ≠ c)
      ∧ t.held = before ++ after)
    ∧ t.issuing = some e
    ∧ s.mem.table.get d = .free ∧ (∀ d', d' < d → s.mem.table.get d' ≠ .free)
    ∧ t.mem = { s.mem with
        table := s.mem.table.put d (.inFlight ⟨e.port, e.hostTag, e.kind, e.length, e.cls⟩
          (if s.mem.timeout = 0 then none else some s.mem.timeout))
        credits := s.mem.credits - 1
        dTx := some { tag := d, entry := e } }
    ∧ (∀ x, x ≠ c → t.classes.get x = s.classes.get x)
    ∧ t.classes.get c = { s.classes.get c with
        budget := if escape = false ∧ (s.classes.get c).mode ≠ .unmetered
          then (s.classes.get c).budget - e.length else (s.classes.get c).budget
        strikes := 0
        clock := 0
        activeWait := (s.classes.get c).writtenWait
        grants := counted (s.classes.get c).grants 1
        grantedUnits := counted (s.classes.get c).grantedUnits e.length
        escapeGrants := if escape = true then counted (s.classes.get c).escapeGrants 1
          else (s.classes.get c).escapeGrants }
    ∧ t.escapeList = s.escapeList.filter (· ≠ c)
    ∧ t.groups = (if escape = true then s.withCause (classGroup c) 2
        else if (s.classes.get c).mode = .hold ∧ 0 < (s.classes.get c).budget
          ∧ (s.classes.get c).budget - e.length ≤ 0 then s.withCause (classGroup c) 0 else s).groups
    ∧ (∃ a : Arbiter, (s.TenureEndsFirst → a = s.arb.ended) ∧ (¬s.TenureEndsFirst → a = s.arb)
      ∧ t.arb = if escape = true then a.ended
        else if a.holder = some c then
          ({ a with count := a.count + 1 } : Arbiter).endedAt (s.classes.get c).tenureLimit
        else ({ a.ended with holder := some c, count := 1 } : Arbiter).endedAt (s.classes.get c).tenureLimit)
    ∧ t = { s with
        held := t.held, issuing := t.issuing, mem := t.mem, classes := t.classes
        escapeList := t.escapeList, groups := t.groups, arb := t.arb }

/-- SEND_END (R12): the ISSUING entry is freed, the D transmitter is idle, and one credit returns to the entry's port
while it is OPEN; in any other port state it is kept back. -/
def Obligations.SendEndFreesEntry : Prop :=
  ∀ (s : State) (e : StoreEntry), s.pins.rstLow = false → s.issuing = some e →
    exec .sendEnd s = .next ({ s with
      issuing := none
      mem := { s.mem with dTx := none }
      ports := s.ports.put e.port ((s.ports.get e.port).given 1) })

/-! ## The memory port -/

/-- MEMORY_RESPONSE (R132 to R134, R79, R80): by the state of the tag's entry and, for an IN_FLIGHT one, by whether
the response matches it; a packet of a kind the memory should not send is discarded with UNEXPECTED. -/
def Obligations.MemoryResponses : Prop :=
  ∀ (packet : List Byte) (s : State), s.pins.rstLow = false → s.mem.link = .up →
    let k := readMemPacket packet
    let freed := s.mem.table.put k.tag .free
    let answered := fun (r : FlightRecord) (a : Answer) => s.ports.put r.port
      { s.ports.get r.port with queue := (s.ports.get r.port).queue ++ [⟨r.hostTag, a⟩] }
    let response := k.kind = some .data ∨ k.kind = some .done ∨ k.kind = some .error
    let matches' := fun r : FlightRecord => k.wholeHeader = true ∧ k.length = r.length
      ∧ ((r.kind = .read ∧ k.kind = some .data ∧ k.payloadBytes = 32 * k.length ∧ k.payloadBytes ≤ 256)
        ∨ (r.kind = .write ∧ k.kind = some .done ∧ k.payloadBytes = 0))
    (∀ r left, response → s.mem.table.get k.tag = .inFlight r left → matches' r →
      exec (.memoryResponse packet) s = .next { s with
        mem := { s.mem with table := freed }
        ports := answered r (if r.kind = .read then .data r.length k.payload else .done) })
    ∧ (∀ r left, s.mem.table.get k.tag = .inFlight r left → k.kind = some .error →
      exec (.memoryResponse packet) s = .next { s.withCause 12 3 with
        mem := { s.mem with table := freed, memoryErrors := counted s.mem.memoryErrors 1 }
        ports := answered r .failed })
    ∧ (∀ r left, response → s.mem.table.get k.tag = .inFlight r left → ¬matches' r → k.kind ≠ some .error →
      exec (.memoryResponse packet) s = .next { s.withCause 12 2 with
        mem := { s.mem with table := freed }
        ports := answered r .failed })
    ∧ (∀ r left, response → s.mem.table.get k.tag = .orphan r left →
      exec (.memoryResponse packet) s = .next { s with mem := { s.mem with table := freed } })
    ∧ (∀ r, response → s.mem.table.get k.tag = .late r →
      exec (.memoryResponse packet) s = .next { s.withCause 12 1 with
        mem := { s.mem with table := freed, lateDiscarded := counted s.mem.lateDiscarded 1 } })
    ∧ ((response → s.mem.table.get k.tag = .free) → k.kind ≠ some .credit →
      exec (.memoryResponse packet) s = .next { s.withCause 12 2 with
        mem := { s.mem with unexpectedResponses := counted s.mem.unexpectedResponses 1 } })

/-- MEM_CREDIT (R80, R127): the credits rise by the Count, but no higher than N: a Count above 0 that would pass N
leaves them at N and raises CREDIT_FAULT. -/
def Obligations.MemoryCredits : Prop :=
  ∀ (packet : List Byte) (s : State), s.pins.rstLow = false → s.mem.link = .up →
    (readMemPacket packet).kind = some .credit →
    let n := (readMemPacket packet).count
    exec (.memCredit packet) s = .next
      (if n = 0 ∨ s.mem.credits + n ≤ s.mem.announced then
        { s with mem := { s.mem with credits := s.mem.credits + n } }
      else { s.withCause 12 4 with mem := { s.mem with credits := s.mem.announced } })

/-- MEM_TRAINING, MEM_LINK_UP and MEM_LINK_LOST (R125, R126, R138): training from DOWN or TRAINING; an announcement of
1 to 32 brings the link UP with that many credits and LINK_UP, another is refused with CREDIT_FAULT and a retrain; a
loss clears the table, the send and the credits and pauses the wait clocks, with LINK_LOST.  That training and an
accepted link up end a retrain request is the model's choice (log 13). -/
def Obligations.MemoryLink : Prop :=
  ∀ s : State, s.pins.rstLow = false →
    (s.mem.link = .down ∨ s.mem.link = .training →
      exec .memTraining s = .next { s with mem := { s.mem with link := .training, retrain := false } })
    ∧ (∀ n : BitVec 6, s.mem.link = .training → 1 ≤ n.toNat → n.toNat ≤ 32 →
      exec (.memLinkUp n) s = .next { s.withCause 12 6 with
        mem := { s.mem with link := .up, announced := n.toNat, credits := n.toNat, retrain := false } })
    ∧ (∀ n : BitVec 6, s.mem.link = .training → n.toNat = 0 ∨ 32 < n.toNat →
      exec (.memLinkUp n) s = .next { s.withCause 12 4 with mem := { s.mem with retrain := true } })
    ∧ (s.mem.link = .up → ∃ t, exec .memLinkLost s = .next t
      ∧ ClearedDownstream s t ∧ t.mem.link = .down ∧ t.mem.retrain = s.mem.retrain
      ∧ t = { s.withCause 12 5 with
          mem := t.mem, issuing := t.issuing, ports := t.ports, classes := t.classes })

/-- ENTRY_TIMEOUT (R135, R136): an IN_FLIGHT entry whose remaining time is 0 is answered TIMEOUT, with its cause and
counter, and becomes LATE; such an ORPHAN becomes LATE in silence; a LATE count that rises from below the quarantine
level to it raises QUARANTINE; for any other entry nothing changes (R131; log 7). -/
def Obligations.EntriesTimeOut : Prop :=
  ∀ (d : DTag) (s : State), s.pins.rstLow = false →
    let late := fun r : FlightRecord => s.mem.table.put d (.late r)
    let atLevel := s.mem.lateCount < s.mem.quarantineLevel ∧ s.mem.quarantineLevel ≤ s.mem.lateCount + 1
    (∀ r, s.mem.table.get d = .inFlight r (some 0) →
      exec (.entryTimeout d) s = .next
        { (if atLevel then (s.withCause 12 0).withCause 12 7 else s.withCause 12 0) with
          mem := { s.mem with table := late r, timeouts := counted s.mem.timeouts 1 }
          ports := s.ports.put r.port { s.ports.get r.port with
            queue := (s.ports.get r.port).queue ++ [⟨r.hostTag, .timeout⟩] } })
    ∧ (∀ r, s.mem.table.get d = .orphan r (some 0) →
      exec (.entryTimeout d) s = .next
        { (if atLevel then s.withCause 12 7 else s) with mem := { s.mem with table := late r } })
    ∧ ((s.mem.table.get d).remaining ≠ some 0 → exec (.entryTimeout d) s = .next s)

/-! ## Timers -/

/-- WAIT_CLOCK_EXPIRY (R63, R68): a RUNNING clock that has reached its active wait limit expires; the first expiry
raises STARVED, makes one strike and restarts the clock with the written limit, the second sets the mark at the tail of
the escape list and stops the clock at its limit.  A PAUSED or STOPPED clock, and one below its limit (after a grant,
say), does not expire: nothing changes (log 7). -/
def Obligations.WaitClocksExpire : Prop :=
  ∀ (c : ClassId) (s : State), s.pins.rstLow = false →
    let expired := s.Runs c ∧ (s.classes.get c).activeWait ≤ (s.classes.get c).clock
    (expired → (s.classes.get c).strikes = 0 → exec (.waitClockExpiry c) s = .next
      ((s.withClass c { s.classes.get c with
        strikes := 1, clock := 0, activeWait := (s.classes.get c).writtenWait }).withCause (classGroup c) 1))
    ∧ (expired → (s.classes.get c).strikes = 1 → exec (.waitClockExpiry c) s = .next
      { s.withClass c { s.classes.get c with strikes := 2, clock := (s.classes.get c).activeWait } with
        escapeList := s.escapeList ++ [c] })
    ∧ (¬expired → exec (.waitClockExpiry c) s = .next s)

/-- EPOCH_BOUNDARY, MID_EPOCH_POINT and FRAME_EDGE (R35, R36, R39, R27 to R29): which classes each refills, by mode,
and how much; what the boundary does to the epoch timer; the causes raised.  A boundary comes at the end of the epoch
and a mid-epoch point at its middle alone, one tick after the epoch time that stands there (R34; log 7): at any other
time nothing changes.  What the edge detector keeps of an edge is the model's field (log 20). -/
def Obligations.RefillEvents : Prop :=
  ∀ s : State, s.pins.rstLow = false →
    let refill := fun (c : ClassId) (share : Nat) => if (s.classes.get c).budget < 0
      then (share : Int) + (s.classes.get c).budget else share
    let a := fun c : ClassId => (s.classes.get c).allowance
    (2 ^ s.epoch.activeExp ≤ s.epoch.time + 1 → ∃ t, exec .epochBoundary s = .next t
      ∧ t = { s.withCause 13 0 with
          epoch := { s.epoch with
            activeExp := s.epoch.writtenExp, time := 0, counter := s.epoch.counter + 1 }
          classes := t.classes }
      ∧ ∀ c, t.classes.get c = { s.classes.get c with
          budget := if (s.classes.get c).mode = .periodic then refill c (a c)
            else if (s.classes.get c).mode = .halved then refill c (a c - a c / 2)
            else (s.classes.get c).budget })
    ∧ (s.epoch.time + 1 < 2 ^ s.epoch.activeExp → exec .epochBoundary s = .next s)
    ∧ (s.epoch.time + 1 ≠ 2 ^ (s.epoch.activeExp - 1) → exec .midEpochPoint s = .next s)
    ∧ (s.epoch.time + 1 = 2 ^ (s.epoch.activeExp - 1) → ∃ t, exec .midEpochPoint s = .next t
      ∧ t = { s with
          epoch := { s.epoch with time := 2 ^ (s.epoch.activeExp - 1) }
          classes := t.classes }
      ∧ ∀ c, t.classes.get c = { s.classes.get c with
          budget := if (s.classes.get c).mode = .halved then
              (if (s.classes.get c).budget + (a c / 2 : Nat) ≤ a c
              then (s.classes.get c).budget + (a c / 2 : Nat) else a c)
            else (s.classes.get c).budget })
    ∧ ∃ t, exec .frameEdge s = .next t
      ∧ t = { s.withCause 13 1 with
          pins := { s.pins with frameSample := some true }
          classes := t.classes }
      ∧ ∀ c, t.classes.get c = { s.classes.get c with
          budget := if (s.classes.get c).mode = .triggered then refill c (a c)
            else (s.classes.get c).budget }

/-! ## Laws that every step keeps -/

/-- The ring stays a permutation of the classes (R45), and the tenure record stays in its ranges (R51). -/
def Obligations.ArbiterLawsKept : Prop :=
  ∀ s t : State, s.RingLaw → s.TenureLaw → step s = .next t → t.RingLaw ∧ t.TenureLaw

/-- The budget counter of every class stays between -7 and the class allowance (R21), and every stored request and every
in-flight record stays sound (R2, R129); with the store and the tenure in their ranges, so do the values that the
snapshot slots hold (R154). -/
def Obligations.BudgetLawKept : Prop :=
  ∀ s t : State, s.StoreLaw → s.BudgetLaw → step s = .next t →
    t.StoreLaw ∧ t.BudgetLaw ∧ (s.CreditLaw → s.TenureLaw → s.SlotLaw → t.SlotLaw)

/-- The starvation monitor's law is kept (R60, R61, R66). -/
def Obligations.MonitorLawKept : Prop :=
  ∀ s t : State, s.MonitorLaw → step s = .next t → t.MonitorLaw

/-- The memory port never holds more credits than the memory announced, and holds nothing in flight while the link is
not UP (R126, R127, R138). -/
def Obligations.MemoryLawKept : Prop :=
  ∀ s t : State, s.MemoryLaw → step s = .next t → t.MemoryLaw

/-- The credit accounting of each port (R112), and one answer for every outstanding tag (R115), from every state in
which the D transmitter and the ISSUING entry agree (R128). -/
def Obligations.PortLawsKept : Prop :=
  ∀ s t : State, s.MemoryLaw → s.CreditLaw → s.AnswerLaw → step s = .next t → t.CreditLaw ∧ t.AnswerLaw

/-- The frame in progress, the claims and the reset line keep their laws (R149, R158, R163, R166).  The reset law gives
the whole state while RST# is low, and so rests on the zeros of log 4 and the readings of log 15. -/
def Obligations.FrameLawsKept : Prop :=
  ∀ s t : State, s.FrameLaw → s.ClaimLaw → s.ResetLaw → step s = .next t →
    t.FrameLaw ∧ t.ClaimLaw ∧ t.ResetLaw

/-- The settings, the flow entries, the epoch timer and the counters stay in their ranges (R34, R87, R97, R100, R131,
R136, R152). -/
def Obligations.SettingLawsKept : Prop :=
  ∀ s t : State, s.FlowLaw → s.SettingsLaw → s.EpochLaw → s.CounterLaw → step s = .next t →
    t.FlowLaw ∧ t.SettingsLaw ∧ t.EpochLaw ∧ t.CounterLaw

/-- Every one of these laws holds after power-on, whatever the level of OPENSTRAP, and so at `State.reset`. -/
def Obligations.LawsAtPowerOn : Prop :=
  ∀ b : Bool, (State.powerOn b).RingLaw ∧ (State.powerOn b).TenureLaw ∧ (State.powerOn b).StoreLaw
    ∧ (State.powerOn b).BudgetLaw ∧ (State.powerOn b).SlotLaw ∧ (State.powerOn b).MonitorLaw ∧ (State.powerOn b).MemoryLaw
    ∧ (State.powerOn b).CreditLaw ∧ (State.powerOn b).AnswerLaw ∧ (State.powerOn b).FrameLaw
    ∧ (State.powerOn b).ClaimLaw ∧ (State.powerOn b).ResetLaw ∧ (State.powerOn b).FlowLaw
    ∧ (State.powerOn b).SettingsLaw ∧ (State.powerOn b).EpochLaw ∧ (State.powerOn b).CounterLaw

/-- The store never holds more than 128 entries (R1), and a port never has more than 32 tags outstanding or responses
queued, no two of them with one tag (R115, R117). -/
def Obligations.StoreAndQueuesBounded : Prop :=
  ∀ s : State, s.CreditLaw → s.AnswerLaw →
    s.held.length + s.issuing.toList.length ≤ 128
    ∧ ∀ p, (s.ports.get p).outstanding.length ≤ 32 ∧ (s.ports.get p).queue.length ≤ 32
      ∧ (s.answeredTags p).Nodup

/-! ## Laws of the whole part -/

/-- The management link never changes the active bank's entries (R86), nor does anything else but RST#. -/
def Obligations.ActiveBankUnchanged : Prop :=
  ∀ (c : Instr) (s t : State), c ≠ .rstAssert → (∀ b, c ≠ .rstRelease b) → exec c s = .next t →
    t.flow.banks.get s.flow.active = s.flow.banks.get s.flow.active

/-- A set flag is cleared by the completion of a read of its group's claim word, which clears only flags of the
claimed set, and by RST#, and by nothing else (R145, R149). -/
def Obligations.FlagsClearedByClaimsAlone : Prop :=
  ∀ (c : Instr) (s t : State) (g : GroupId) (i : Nat), c ≠ .rstAssert → (∀ b, c ≠ .rstRelease b) →
    exec c s = .next t → (s.groups.get g).flags.getLsbD i = true → (t.groups.get g).flags.getLsbD i = false →
    c = .claimCompletion ∧ s.mgmt.claiming = some g ∧ (s.groups.get g).claimed.getLsbD i = true

/-- ALERT# is asserted exactly when a cause is set whose enable is 1, and that is exactly when CAUSE_SUMMARY reads
other than 0; bit g of the word is group g's indication; while RST# is low the line is released; every frame's status
byte reports the level; a read of CAUSE_SUMMARY clears nothing (R148, R169). -/
def Obligations.AlertIsCauseSummary : Prop :=
  ∀ s : State,
    (s.alert = true ↔ ∃ g, (s.groups.get g).flags &&& (s.groups.get g).enables ≠ 0)
    ∧ (s.alert = true ↔ s.readAt 0x0940 ≠ 0)
    ∧ (∀ g : GroupId, (s.readAt 0x0940).getLsbD g.val = true ↔
      (s.groups.get g).flags &&& (s.groups.get g).enables ≠ 0)
    ∧ (s.ResetLaw → s.pins.rstLow = true → s.alert = false)
    ∧ (s.pins.rstLow = false → s.pins.csLow = false →
      ∃ t, exec .csFall s = .next t ∧ t.mgmt.statusByte.getLsbD 2 = s.alert)
    ∧ ∃ t, exec (.lastAddressBit 0x0940) s = .next t ∧ t.groups = s.groups

/-- What every word of the management space reads as, field by field, in the layout of R169 (R38, R40, R57, R69, R88,
R122, R142, R151, R152, R154, R160, R163, R167, R168); every bit outside the fields is 0.  CAUSE_SUMMARY is in
AlertIsCauseSummary.  The tags read as FREE and LATE add up to 64 with the IN_FLIGHT and ORPHAN ones.  A remaining time
of 0, whose timeout has not been taken yet, shows as 1 (log 7).  COMMAND and an unmapped address read 0. -/
def Obligations.ObservationWords : Prop :=
  ∀ s : State, s.MemoryLaw → s.CreditLaw → s.AnswerLaw → s.StoreLaw → s.BudgetLaw → s.SlotLaw → s.RingLaw →
    s.TenureLaw → s.MonitorLaw → s.EpochLaw → s.SettingsLaw → s.CounterLaw →
    let word := fun n : Nat => s.readAt (BitVec.ofNat 16 n)
    let number := fun n : Nat => (word n).toNat
    let bit := fun (b : Bool) (n : Nat) => if b = true then 2 ^ n else 0
    (word 0x0000 = 0x01000440
      ∧ number 0x0001 = s.epoch.writtenExp + bit (decide (s.arb.mode = .rotate)) 8
      ∧ number 0x0002 = s.mem.link.code + 2 ^ 2 * s.mem.announced + 2 ^ 8 * s.mem.credits
        + 2 ^ 14 * s.mem.freeCount + 2 ^ 21 * s.mem.lateCount + 2 ^ 28 * s.flow.active.val
      ∧ s.mem.freeCount + s.mem.lateCount + s.mem.inFlightRecords.length
        + ((List.finRange 64).filter fun t => match s.mem.table.get t with
          | .orphan _ _ => true
          | _ => false).length = 64
      ∧ word 0x0003 = s.epoch.counter
      ∧ number 0x0004 = s.flow.memLimit ∧ number 0x0005 = s.mem.timeout
      ∧ number 0x0006 = s.mem.quarantineLevel
      ∧ (∀ i : Fin 8, s.arb.ring[i.val]?.map Fin.val = some (number 0x0007 / 16 ^ i.val % 16))
      ∧ number 0x0008 = 0
      ∧ (s.mgmt.lastReject = none → number 0x0009 = 0)
      ∧ ∀ a r, s.mgmt.lastReject = some (a, r) → number 0x0009 = a.toNat + 2 ^ 16 * r.code)
    ∧ (∀ p : Port,
      let k := s.ports.get p
      let at' := 0x0100 + 16 * p.val
      number at' = k.state.code + bit k.linkUp 3
      ∧ number (at' + 1) = k.creditLimit
      ∧ number (at' + 2) = k.defaultAction.code
      ∧ number (at' + 3) = k.hostCredits + 2 ^ 8 * k.pendingCredits
      ∧ number (at' + 4) = s.storeEntries p + 2 ^ 8 * k.outstanding.length + 2 ^ 16 * k.queue.length)
    ∧ (∀ c : ClassId,
      let k := s.classes.get c
      let at' := 0x0200 + 16 * c.val
      let holds := s.arb.holder = some c
      number at' = k.mode.code
      ∧ number (at' + 1) = k.allowance
      ∧ (word (at' + 2)).toInt = k.budget
      ∧ number (at' + 3) = bit k.admitOn 0
      ∧ number (at' + 4) = k.depthLimit
      ∧ number (at' + 5) = k.tenureLimit
      ∧ number (at' + 6) = k.writtenWait
      ∧ number (at' + 7) = (s.queue c).length + 2 ^ 8 * k.strikes.val
        + bit (decide (c ∈ s.escapeList)) 10 + bit (decide holds) 11
        + 2 ^ 12 * (if holds then s.arb.count else 0))
    ∧ (∀ (b : Bank) (i : EntryIdx),
      let e := (s.flow.banks.get b).get i
      let at' := 0x0400 + 0x0100 * b.val + 4 * i.val
      number at' = e.streamLow.toNat + 2 ^ 4 * e.streamHigh.toNat
      ∧ number (at' + 1) = e.base.toNat
      ∧ number (at' + 2) = e.limit.toNat
      ∧ number (at' + 3) = bit e.valid 0 + bit e.windowPresent 1 + 2 ^ 2 * e.operation.code
        + 2 ^ 4 * e.portSet.toNat + 2 ^ 8 * e.action.code)
    ∧ (∀ t : DTag,
      let at' := 0x0600 + 2 * t.val
      let view := fun r : FlightRecord => 2 ^ 2 * r.port.val + 2 ^ 4 * r.hostTag.toNat
        + bit (decide (r.kind = .write)) 9 + 2 ^ 10 * r.length + 2 ^ 14 * r.cls.val
      let shown := fun left : Option Nat => match left with
        | none => 0
        | some n => if n = 0 then 1 else n
      match s.mem.table.get t with
      | .free => number at' = 0 ∧ number (at' + 1) = 0
      | .inFlight r left => number at' = 1 + view r ∧ number (at' + 1) = shown left
      | .orphan r left => number at' = 2 + view r ∧ number (at' + 1) = shown left
      | .late r => number at' = 3 + view r ∧ number (at' + 1) = 0)
    ∧ (∀ c : ClassId,
      let at' := 0x0700 + 4 * c.val
      ((s.classes.get c).slot = none → ∀ k : Fin 4, number (at' + k.val) = 0)
      ∧ ∀ v, (s.classes.get c).slot = some v →
        (word at').toInt = v.budget
        ∧ number (at' + 1) = v.queueLength
        ∧ number (at' + 2) = v.strikes.val + bit v.mark 2 + bit v.tenureFlag 3 + 2 ^ 4 * v.tenureCount + 2 ^ 31
        ∧ word (at' + 3) = v.epochCounter)
    ∧ (∀ n : CounterId, (s.readAt (MgmtWord.counter n).addr).toNat = s.counter n)
    ∧ (∀ g : GroupId,
      let at' := 0x0900 + 4 * g.val
      number at' = (s.groups.get g).flags.toNat
      ∧ number (at' + 1) = (s.groups.get g).flags.toNat
      ∧ number (at' + 2) = (s.groups.get g).enables.toNat)
    ∧ ∀ a : Addr, (∀ w : MgmtWord, w.addr ≠ a) → s.readAt a = 0

/-- HELD entries keep the order of taking and their fields (R4, R6, R8, R2): a command takes entries away or adds one
at the end, and only an arrival adds one. -/
def Obligations.OrderOfTakingKept : Prop :=
  ∀ (c : Instr) (s t : State), exec c s = .next t →
    t.held.Sublist s.held ∨ ∃ e, t.held = s.held ++ [e] ∧ ∃ packet, c = .arrivalEvent e.port packet

/-- The HELD entry taken earliest heads its class queue and its stream chain, so its class is READY (R10). -/
def Obligations.EarliestHeldIsReady : Prop :=
  ∀ (s : State) (e : StoreEntry) (rest : List StoreEntry), s.held = e :: rest →
    (s.queue e.cls).head? = some e ∧ (s.chain e.port e.stream).head? = some e
      ∧ s.headCondition e.cls = .ready

/-! ## Encodings -/

/-- The management space is one-to-one: every mapped word is read back from its address, and an address that gives a
word is that word's address (R169). -/
def Obligations.AddressMapRoundTrip : Prop :=
  (∀ w : MgmtWord, decodeAddr w.addr = some w)
  ∧ ∀ (a : Addr) (w : MgmtWord), decodeAddr a = some w → w.addr = a

/-- Packets are read and sent as R83 lays them out, their headers least significant byte first.  Received: a request
from a host, a response and a CREDIT message from the memory give back every field they were made from (R73, R79, R80).
Sent: each kind of response to a host (R75), a CREDIT message to a host with a Count of 1 to 64 (R76) and a request on
D (R78) have a header of these bits, every other bit 0, and then the payload; an upstream transmitter that sends holds
the response at the head of the queue, or a CREDIT message with its Count (R77). -/
def Obligations.PacketsRoundTrip : Prop :=
  let laid := fun (k header : Nat) (payload bytes : List Byte) =>
    bytes.length = k + payload.length ∧ leNat (bytes.take k) = header ∧ bytes.drop k = payload
  (∀ (kind : ReqKind) (tag : HostTag) (stream : Stream) (length : Nat) (unitAddr : UnitAddr)
      (payload : List Byte), length < 16 →
    readHostPacket (hostRequestBytes kind tag stream length unitAddr payload) =
      { wholeHeader := true, kind := some kind.packetKind, hostTag := tag, stream := stream
        length := length, unitAddr := unitAddr, payloadBytes := payload.length
        payload := payload.take 256 })
  ∧ (∀ (kind : PacketKind) (tag : DTag) (length : Nat) (payload : List Byte), length < 16 →
    readMemPacket (memResponseBytes kind tag length payload) =
      { wholeHeader := true, kind := some kind, tag := tag, length := length, count := tag.val
        payloadBytes := payload.length, payload := payload.take 256 })
  ∧ (∀ count : Nat, count < 64 →
    (readMemPacket (memCreditBytes count)).kind = some .credit
    ∧ (readMemPacket (memCreditBytes count)).count = count
    ∧ (memCreditBytes count).length = 4)
  ∧ (∀ (tag : HostTag) (length : Nat) (payload : List Byte), length < 16 →
    laid 4 (0x8 + 2 ^ 4 * tag.toNat + 2 ^ 13 * length) payload (Response.bytes ⟨tag, .data length payload⟩))
  ∧ (∀ tag : HostTag,
    laid 4 (0x9 + 2 ^ 4 * tag.toNat) [] (Response.bytes ⟨tag, .done⟩)
    ∧ laid 4 (0xA + 2 ^ 4 * tag.toNat + 2 ^ 9 * 1) [] (Response.bytes ⟨tag, .refused .malformed⟩)
    ∧ laid 4 (0xA + 2 ^ 4 * tag.toNat + 2 ^ 9 * 2) [] (Response.bytes ⟨tag, .refused .range⟩)
    ∧ laid 4 (0xA + 2 ^ 4 * tag.toNat + 2 ^ 9 * 3) [] (Response.bytes ⟨tag, .refused .denied⟩)
    ∧ laid 4 (0xA + 2 ^ 4 * tag.toNat + 2 ^ 9 * 4) [] (Response.bytes ⟨tag, .refused .classOff⟩)
    ∧ laid 4 (0xA + 2 ^ 4 * tag.toNat + 2 ^ 9 * 5) [] (Response.bytes ⟨tag, .refused .classFull⟩)
    ∧ laid 4 (0xB + 2 ^ 4 * tag.toNat) [] (Response.bytes ⟨tag, .timeout⟩)
    ∧ laid 4 (0xC + 2 ^ 4 * tag.toNat) [] (Response.bytes ⟨tag, .aborted⟩)
    ∧ laid 4 (0xD + 2 ^ 4 * tag.toNat) [] (Response.bytes ⟨tag, .failed⟩))
  ∧ (∀ count : Nat, count ≤ 64 → laid 4 (0x4 + 2 ^ 4 * count) [] (hostCreditBytes count))
  ∧ (∀ d : DPacket, d.entry.length < 16 →
    laid 8 ((if d.entry.kind = .read then 0x1 else 0x2) + 2 ^ 4 * d.tag.val + 2 ^ 10 * d.entry.stream.toNat
      + 2 ^ 14 * d.entry.length + 2 ^ 18 * d.entry.port.val + 2 ^ 20 * d.entry.hostTag.toNat
      + 2 ^ 32 * d.entry.unitAddr.toNat) d.entry.data d.bytes)
  ∧ ∀ k : PortRec,
    (k.upTx = .idle → k.sending = none)
    ∧ (∀ n, k.upTx = .credit n → k.sending = some (hostCreditBytes n))
    ∧ ∀ r rest, k.upTx = .response → k.queue = r :: rest → k.sending = some r.bytes

/-! ## Two events that meet -/

/-- CLOSE_PORT and the end of the send of the last outstanding response (R119): both orders end CLOSED with the host
holding no credits, the port's tags and queue empty, and the CLOSED cause raised. -/
def Obligations.CloseMeetsLastResponse : Prop :=
  ∀ (p : Port) (s : State) (r : Response) (arg : Byte), s.WritingAt 0x0008 → arg.toNat = p.val →
    (s.ports.get p).state = .opened → (s.ports.get p).upTx = .response → (s.ports.get p).queue = [r] →
    (s.ports.get p).outstanding = [r.hostTag] →
    ∃ t, (∃ u, exec (.responseSendEnd p) s = .next u ∧ exec (.closePort arg) u = .next t)
      ∧ (∃ u, exec (.closePort arg) s = .next u ∧ exec (.responseSendEnd p) u = .next t)
      ∧ (t.ports.get p).state = .closed ∧ (t.ports.get p).hostCredits = 0
      ∧ (t.ports.get p).outstanding = [] ∧ (t.ports.get p).queue = []
      ∧ t.causeSet (.port p .closed) = true

/-- A response, of any kind, and the timeout of the same entry, due at the same moment (R140).  Of an IN_FLIGHT entry:
the host gets exactly one answer in both orders.  Where the response comes first that is its answer: DATA or DONE where
it matches the entry (R132), FAILED for an ERROR and for a mismatch, with their causes (R133), and no timeout occurs;
where the timeout comes first it is TIMEOUT, and the response is discarded with LATE and the late counter (R134).  Of an
ORPHAN entry: nothing reaches the host in either order, and the timeout alone brings LATE.  The tag is FREE
afterwards. -/
def Obligations.ResponseMeetsTimeout : Prop :=
  ∀ (packet : List Byte) (s : State) (r : FlightRecord), s.pins.rstLow = false → s.mem.link = .up →
    let k := readMemPacket packet
    let matches' := k.wholeHeader = true ∧ k.length = r.length
      ∧ ((r.kind = .read ∧ k.kind = some .data ∧ k.payloadBytes = 32 * k.length ∧ k.payloadBytes ≤ 256)
        ∨ (r.kind = .write ∧ k.kind = some .done ∧ k.payloadBytes = 0))
    let answers := fun (t : State) (a : Answer) =>
      (t.ports.get r.port).queue = (s.ports.get r.port).queue ++ [⟨r.hostTag, a⟩]
    (k.kind = some .data ∨ k.kind = some .done ∨ k.kind = some .error) →
    (s.mem.table.get k.tag = .inFlight r (some 0) →
      (∃ t, exec (.memoryResponse packet) s = .next t ∧ exec (.entryTimeout k.tag) t = .next t
        ∧ t.mem.table.get k.tag = .free
        ∧ (matches' → r.kind = .read → answers t (.data r.length k.payload))
        ∧ (matches' → r.kind = .write → answers t .done)
        ∧ (¬matches' → answers t .failed)
        ∧ (k.kind = some .error → t.causeSet (.down .memError) = true
          ∧ t.mem.memoryErrors = counted s.mem.memoryErrors 1)
        ∧ (¬matches' → k.kind ≠ some .error → t.causeSet (.down .unexpected) = true))
      ∧ ∃ t u, exec (.entryTimeout k.tag) s = .next t ∧ exec (.memoryResponse packet) t = .next u
        ∧ answers u .timeout
        ∧ u.mem.table.get k.tag = .free
        ∧ u.mem.timeouts = counted s.mem.timeouts 1
        ∧ u.causeSet (.down .late) = true
        ∧ u.mem.lateDiscarded = counted s.mem.lateDiscarded 1)
    ∧ (s.mem.table.get k.tag = .orphan r (some 0) →
      (∃ t, exec (.memoryResponse packet) s = .next t ∧ exec (.entryTimeout k.tag) t = .next t
        ∧ t.mem.table.get k.tag = .free ∧ t.ports = s.ports ∧ t.mem.lateDiscarded = s.mem.lateDiscarded)
      ∧ ∃ t u, exec (.entryTimeout k.tag) s = .next t ∧ exec (.memoryResponse packet) t = .next u
        ∧ u.mem.table.get k.tag = .free ∧ u.ports = s.ports
        ∧ u.causeSet (.down .late) = true
        ∧ u.mem.lateDiscarded = counted s.mem.lateDiscarded 1)
end

