-- ==== Sys2Proof/Laws/Table.lean ====
section
/-! SUPPORT. Laws/Table.lean: what a table reads after each way of making one. -/

namespace Sys2Proof.Table

variable {n : Nat} {α : Type}

@[simp] theorem get_build (f : Fin n → α) (i : Fin n) : (build f).get i = f i := by
  simp [get, build]

theorem get_put (t : Table n α) (i j : Fin n) (a : α) :
    (t.put i a).get j = if i = j then a else t.get j := by
  simp [get, put, Vector.getElem_set, Fin.ext_iff]

@[simp] theorem get_put_self (t : Table n α) (i : Fin n) (a : α) : (t.put i a).get i = a := by
  simp [get_put]

theorem get_put_of_ne (t : Table n α) {i j : Fin n} (a : α) (h : i ≠ j) :
    (t.put i a).get j = t.get j := by
  simp [get_put, h]

/-- Two tables are equal when every row is. -/
theorem ext_get {t u : Table n α} (h : ∀ i, t.get i = u.get i) : t = u := by
  cases t
  cases u
  congr 1
  ext i hi
  simpa [get] using h ⟨i, hi⟩

/-- Writing back what a row holds changes nothing. -/
@[simp] theorem put_get_self (t : Table n α) (i : Fin n) : t.put i (t.get i) = t :=
  ext_get fun j => by
    rw [get_put]
    split
    · next h => rw [h]
    · rfl

/-- A second write of a row replaces the first. -/
@[simp] theorem put_put (t : Table n α) (i : Fin n) (a b : α) : (t.put i a).put i b = t.put i b :=
  ext_get fun j => by
    simp only [get_put]
    split <;> rfl

end Sys2Proof.Table
end

