-- ==== Sys2Proof/Laws/State.lean ====
section
/-! SUPPORT. Laws/State.lean: one lemma for each field of the state under each named update, so that no proof
unfolds an update. -/

namespace Sys2Proof.Machine.State

variable (s : State)

/-! ### updPort -/

@[simp] theorem updPort_pins (p : Port) (f : PortRec → PortRec) : (s.updPort p f).pins = s.pins := rfl
@[simp] theorem updPort_held (p : Port) (f : PortRec → PortRec) : (s.updPort p f).held = s.held := rfl
@[simp] theorem updPort_issuing (p : Port) (f : PortRec → PortRec) :
    (s.updPort p f).issuing = s.issuing := rfl
@[simp] theorem updPort_ports (p : Port) (f : PortRec → PortRec) :
    (s.updPort p f).ports = s.ports.put p (f (s.ports.get p)) := rfl
@[simp] theorem updPort_classes (p : Port) (f : PortRec → PortRec) :
    (s.updPort p f).classes = s.classes := rfl
@[simp] theorem updPort_escapeList (p : Port) (f : PortRec → PortRec) :
    (s.updPort p f).escapeList = s.escapeList := rfl
@[simp] theorem updPort_epoch (p : Port) (f : PortRec → PortRec) : (s.updPort p f).epoch = s.epoch := rfl
@[simp] theorem updPort_arb (p : Port) (f : PortRec → PortRec) : (s.updPort p f).arb = s.arb := rfl
@[simp] theorem updPort_flow (p : Port) (f : PortRec → PortRec) : (s.updPort p f).flow = s.flow := rfl
@[simp] theorem updPort_mem (p : Port) (f : PortRec → PortRec) : (s.updPort p f).mem = s.mem := rfl
@[simp] theorem updPort_groups (p : Port) (f : PortRec → PortRec) :
    (s.updPort p f).groups = s.groups := rfl
@[simp] theorem updPort_mgmt (p : Port) (f : PortRec → PortRec) : (s.updPort p f).mgmt = s.mgmt := rfl
@[simp] theorem updPort_freeIndex (p : Port) (f : PortRec → PortRec) :
    (s.updPort p f).freeIndex = s.freeIndex := rfl
@[simp] theorem updPort_pending (p : Port) (f : PortRec → PortRec) :
    (s.updPort p f).pending = s.pending := rfl

/-! ### updClass -/

@[simp] theorem updClass_pins (c : ClassId) (f : ClassRec → ClassRec) :
    (s.updClass c f).pins = s.pins := rfl
@[simp] theorem updClass_held (c : ClassId) (f : ClassRec → ClassRec) :
    (s.updClass c f).held = s.held := rfl
@[simp] theorem updClass_issuing (c : ClassId) (f : ClassRec → ClassRec) :
    (s.updClass c f).issuing = s.issuing := rfl
@[simp] theorem updClass_ports (c : ClassId) (f : ClassRec → ClassRec) :
    (s.updClass c f).ports = s.ports := rfl
@[simp] theorem updClass_classes (c : ClassId) (f : ClassRec → ClassRec) :
    (s.updClass c f).classes = s.classes.put c (f (s.classes.get c)) := rfl
@[simp] theorem updClass_escapeList (c : ClassId) (f : ClassRec → ClassRec) :
    (s.updClass c f).escapeList = s.escapeList := rfl
@[simp] theorem updClass_epoch (c : ClassId) (f : ClassRec → ClassRec) :
    (s.updClass c f).epoch = s.epoch := rfl
@[simp] theorem updClass_arb (c : ClassId) (f : ClassRec → ClassRec) :
    (s.updClass c f).arb = s.arb := rfl
@[simp] theorem updClass_flow (c : ClassId) (f : ClassRec → ClassRec) :
    (s.updClass c f).flow = s.flow := rfl
@[simp] theorem updClass_mem (c : ClassId) (f : ClassRec → ClassRec) :
    (s.updClass c f).mem = s.mem := rfl
@[simp] theorem updClass_groups (c : ClassId) (f : ClassRec → ClassRec) :
    (s.updClass c f).groups = s.groups := rfl
@[simp] theorem updClass_mgmt (c : ClassId) (f : ClassRec → ClassRec) :
    (s.updClass c f).mgmt = s.mgmt := rfl
@[simp] theorem updClass_freeIndex (c : ClassId) (f : ClassRec → ClassRec) :
    (s.updClass c f).freeIndex = s.freeIndex := rfl
@[simp] theorem updClass_pending (c : ClassId) (f : ClassRec → ClassRec) :
    (s.updClass c f).pending = s.pending := rfl

/-! ### updPorts -/

@[simp] theorem updPorts_pins (f : Port → PortRec → PortRec) : (s.updPorts f).pins = s.pins := rfl
@[simp] theorem updPorts_held (f : Port → PortRec → PortRec) : (s.updPorts f).held = s.held := rfl
@[simp] theorem updPorts_issuing (f : Port → PortRec → PortRec) :
    (s.updPorts f).issuing = s.issuing := rfl
@[simp] theorem updPorts_ports (f : Port → PortRec → PortRec) :
    (s.updPorts f).ports = .build fun p => f p (s.ports.get p) := rfl
@[simp] theorem updPorts_classes (f : Port → PortRec → PortRec) :
    (s.updPorts f).classes = s.classes := rfl
@[simp] theorem updPorts_escapeList (f : Port → PortRec → PortRec) :
    (s.updPorts f).escapeList = s.escapeList := rfl
@[simp] theorem updPorts_epoch (f : Port → PortRec → PortRec) : (s.updPorts f).epoch = s.epoch := rfl
@[simp] theorem updPorts_arb (f : Port → PortRec → PortRec) : (s.updPorts f).arb = s.arb := rfl
@[simp] theorem updPorts_flow (f : Port → PortRec → PortRec) : (s.updPorts f).flow = s.flow := rfl
@[simp] theorem updPorts_mem (f : Port → PortRec → PortRec) : (s.updPorts f).mem = s.mem := rfl
@[simp] theorem updPorts_groups (f : Port → PortRec → PortRec) : (s.updPorts f).groups = s.groups := rfl
@[simp] theorem updPorts_mgmt (f : Port → PortRec → PortRec) : (s.updPorts f).mgmt = s.mgmt := rfl
@[simp] theorem updPorts_freeIndex (f : Port → PortRec → PortRec) :
    (s.updPorts f).freeIndex = s.freeIndex := rfl
@[simp] theorem updPorts_pending (f : Port → PortRec → PortRec) :
    (s.updPorts f).pending = s.pending := rfl

/-! ### updClasses -/

@[simp] theorem updClasses_pins (f : ClassId → ClassRec → ClassRec) :
    (s.updClasses f).pins = s.pins := rfl
@[simp] theorem updClasses_held (f : ClassId → ClassRec → ClassRec) :
    (s.updClasses f).held = s.held := rfl
@[simp] theorem updClasses_issuing (f : ClassId → ClassRec → ClassRec) :
    (s.updClasses f).issuing = s.issuing := rfl
@[simp] theorem updClasses_ports (f : ClassId → ClassRec → ClassRec) :
    (s.updClasses f).ports = s.ports := rfl
@[simp] theorem updClasses_classes (f : ClassId → ClassRec → ClassRec) :
    (s.updClasses f).classes = .build fun c => f c (s.classes.get c) := rfl
@[simp] theorem updClasses_escapeList (f : ClassId → ClassRec → ClassRec) :
    (s.updClasses f).escapeList = s.escapeList := rfl
@[simp] theorem updClasses_epoch (f : ClassId → ClassRec → ClassRec) :
    (s.updClasses f).epoch = s.epoch := rfl
@[simp] theorem updClasses_arb (f : ClassId → ClassRec → ClassRec) : (s.updClasses f).arb = s.arb := rfl
@[simp] theorem updClasses_flow (f : ClassId → ClassRec → ClassRec) :
    (s.updClasses f).flow = s.flow := rfl
@[simp] theorem updClasses_mem (f : ClassId → ClassRec → ClassRec) : (s.updClasses f).mem = s.mem := rfl
@[simp] theorem updClasses_groups (f : ClassId → ClassRec → ClassRec) :
    (s.updClasses f).groups = s.groups := rfl
@[simp] theorem updClasses_mgmt (f : ClassId → ClassRec → ClassRec) :
    (s.updClasses f).mgmt = s.mgmt := rfl
@[simp] theorem updClasses_freeIndex (f : ClassId → ClassRec → ClassRec) :
    (s.updClasses f).freeIndex = s.freeIndex := rfl
@[simp] theorem updClasses_pending (f : ClassId → ClassRec → ClassRec) :
    (s.updClasses f).pending = s.pending := rfl

/-! ### updArb -/

@[simp] theorem updArb_pins (f : Arbiter → Arbiter) : (s.updArb f).pins = s.pins := rfl
@[simp] theorem updArb_held (f : Arbiter → Arbiter) : (s.updArb f).held = s.held := rfl
@[simp] theorem updArb_issuing (f : Arbiter → Arbiter) : (s.updArb f).issuing = s.issuing := rfl
@[simp] theorem updArb_ports (f : Arbiter → Arbiter) : (s.updArb f).ports = s.ports := rfl
@[simp] theorem updArb_classes (f : Arbiter → Arbiter) : (s.updArb f).classes = s.classes := rfl
@[simp] theorem updArb_escapeList (f : Arbiter → Arbiter) : (s.updArb f).escapeList = s.escapeList := rfl
@[simp] theorem updArb_epoch (f : Arbiter → Arbiter) : (s.updArb f).epoch = s.epoch := rfl
@[simp] theorem updArb_arb (f : Arbiter → Arbiter) : (s.updArb f).arb = f s.arb := rfl
@[simp] theorem updArb_flow (f : Arbiter → Arbiter) : (s.updArb f).flow = s.flow := rfl
@[simp] theorem updArb_mem (f : Arbiter → Arbiter) : (s.updArb f).mem = s.mem := rfl
@[simp] theorem updArb_groups (f : Arbiter → Arbiter) : (s.updArb f).groups = s.groups := rfl
@[simp] theorem updArb_mgmt (f : Arbiter → Arbiter) : (s.updArb f).mgmt = s.mgmt := rfl
@[simp] theorem updArb_freeIndex (f : Arbiter → Arbiter) : (s.updArb f).freeIndex = s.freeIndex := rfl
@[simp] theorem updArb_pending (f : Arbiter → Arbiter) : (s.updArb f).pending = s.pending := rfl

/-! ### updEpoch -/

@[simp] theorem updEpoch_pins (f : EpochTimer → EpochTimer) : (s.updEpoch f).pins = s.pins := rfl
@[simp] theorem updEpoch_held (f : EpochTimer → EpochTimer) : (s.updEpoch f).held = s.held := rfl
@[simp] theorem updEpoch_issuing (f : EpochTimer → EpochTimer) :
    (s.updEpoch f).issuing = s.issuing := rfl
@[simp] theorem updEpoch_ports (f : EpochTimer → EpochTimer) : (s.updEpoch f).ports = s.ports := rfl
@[simp] theorem updEpoch_classes (f : EpochTimer → EpochTimer) :
    (s.updEpoch f).classes = s.classes := rfl
@[simp] theorem updEpoch_escapeList (f : EpochTimer → EpochTimer) :
    (s.updEpoch f).escapeList = s.escapeList := rfl
@[simp] theorem updEpoch_epoch (f : EpochTimer → EpochTimer) : (s.updEpoch f).epoch = f s.epoch := rfl
@[simp] theorem updEpoch_arb (f : EpochTimer → EpochTimer) : (s.updEpoch f).arb = s.arb := rfl
@[simp] theorem updEpoch_flow (f : EpochTimer → EpochTimer) : (s.updEpoch f).flow = s.flow := rfl
@[simp] theorem updEpoch_mem (f : EpochTimer → EpochTimer) : (s.updEpoch f).mem = s.mem := rfl
@[simp] theorem updEpoch_groups (f : EpochTimer → EpochTimer) : (s.updEpoch f).groups = s.groups := rfl
@[simp] theorem updEpoch_mgmt (f : EpochTimer → EpochTimer) : (s.updEpoch f).mgmt = s.mgmt := rfl
@[simp] theorem updEpoch_freeIndex (f : EpochTimer → EpochTimer) :
    (s.updEpoch f).freeIndex = s.freeIndex := rfl
@[simp] theorem updEpoch_pending (f : EpochTimer → EpochTimer) :
    (s.updEpoch f).pending = s.pending := rfl

/-! ### updFlow -/

@[simp] theorem updFlow_pins (f : FlowTable → FlowTable) : (s.updFlow f).pins = s.pins := rfl
@[simp] theorem updFlow_held (f : FlowTable → FlowTable) : (s.updFlow f).held = s.held := rfl
@[simp] theorem updFlow_issuing (f : FlowTable → FlowTable) : (s.updFlow f).issuing = s.issuing := rfl
@[simp] theorem updFlow_ports (f : FlowTable → FlowTable) : (s.updFlow f).ports = s.ports := rfl
@[simp] theorem updFlow_classes (f : FlowTable → FlowTable) : (s.updFlow f).classes = s.classes := rfl
@[simp] theorem updFlow_escapeList (f : FlowTable → FlowTable) :
    (s.updFlow f).escapeList = s.escapeList := rfl
@[simp] theorem updFlow_epoch (f : FlowTable → FlowTable) : (s.updFlow f).epoch = s.epoch := rfl
@[simp] theorem updFlow_arb (f : FlowTable → FlowTable) : (s.updFlow f).arb = s.arb := rfl
@[simp] theorem updFlow_flow (f : FlowTable → FlowTable) : (s.updFlow f).flow = f s.flow := rfl
@[simp] theorem updFlow_mem (f : FlowTable → FlowTable) : (s.updFlow f).mem = s.mem := rfl
@[simp] theorem updFlow_groups (f : FlowTable → FlowTable) : (s.updFlow f).groups = s.groups := rfl
@[simp] theorem updFlow_mgmt (f : FlowTable → FlowTable) : (s.updFlow f).mgmt = s.mgmt := rfl
@[simp] theorem updFlow_freeIndex (f : FlowTable → FlowTable) :
    (s.updFlow f).freeIndex = s.freeIndex := rfl
@[simp] theorem updFlow_pending (f : FlowTable → FlowTable) : (s.updFlow f).pending = s.pending := rfl

/-! ### updMem -/

@[simp] theorem updMem_pins (f : MemPort → MemPort) : (s.updMem f).pins = s.pins := rfl
@[simp] theorem updMem_held (f : MemPort → MemPort) : (s.updMem f).held = s.held := rfl
@[simp] theorem updMem_issuing (f : MemPort → MemPort) : (s.updMem f).issuing = s.issuing := rfl
@[simp] theorem updMem_ports (f : MemPort → MemPort) : (s.updMem f).ports = s.ports := rfl
@[simp] theorem updMem_classes (f : MemPort → MemPort) : (s.updMem f).classes = s.classes := rfl
@[simp] theorem updMem_escapeList (f : MemPort → MemPort) : (s.updMem f).escapeList = s.escapeList := rfl
@[simp] theorem updMem_epoch (f : MemPort → MemPort) : (s.updMem f).epoch = s.epoch := rfl
@[simp] theorem updMem_arb (f : MemPort → MemPort) : (s.updMem f).arb = s.arb := rfl
@[simp] theorem updMem_flow (f : MemPort → MemPort) : (s.updMem f).flow = s.flow := rfl
@[simp] theorem updMem_mem (f : MemPort → MemPort) : (s.updMem f).mem = f s.mem := rfl
@[simp] theorem updMem_groups (f : MemPort → MemPort) : (s.updMem f).groups = s.groups := rfl
@[simp] theorem updMem_mgmt (f : MemPort → MemPort) : (s.updMem f).mgmt = s.mgmt := rfl
@[simp] theorem updMem_freeIndex (f : MemPort → MemPort) : (s.updMem f).freeIndex = s.freeIndex := rfl
@[simp] theorem updMem_pending (f : MemPort → MemPort) : (s.updMem f).pending = s.pending := rfl

/-! ### updMgmt -/

@[simp] theorem updMgmt_pins (f : MgmtLink → MgmtLink) : (s.updMgmt f).pins = s.pins := rfl
@[simp] theorem updMgmt_held (f : MgmtLink → MgmtLink) : (s.updMgmt f).held = s.held := rfl
@[simp] theorem updMgmt_issuing (f : MgmtLink → MgmtLink) : (s.updMgmt f).issuing = s.issuing := rfl
@[simp] theorem updMgmt_ports (f : MgmtLink → MgmtLink) : (s.updMgmt f).ports = s.ports := rfl
@[simp] theorem updMgmt_classes (f : MgmtLink → MgmtLink) : (s.updMgmt f).classes = s.classes := rfl
@[simp] theorem updMgmt_escapeList (f : MgmtLink → MgmtLink) :
    (s.updMgmt f).escapeList = s.escapeList := rfl
@[simp] theorem updMgmt_epoch (f : MgmtLink → MgmtLink) : (s.updMgmt f).epoch = s.epoch := rfl
@[simp] theorem updMgmt_arb (f : MgmtLink → MgmtLink) : (s.updMgmt f).arb = s.arb := rfl
@[simp] theorem updMgmt_flow (f : MgmtLink → MgmtLink) : (s.updMgmt f).flow = s.flow := rfl
@[simp] theorem updMgmt_mem (f : MgmtLink → MgmtLink) : (s.updMgmt f).mem = s.mem := rfl
@[simp] theorem updMgmt_groups (f : MgmtLink → MgmtLink) : (s.updMgmt f).groups = s.groups := rfl
@[simp] theorem updMgmt_mgmt (f : MgmtLink → MgmtLink) : (s.updMgmt f).mgmt = f s.mgmt := rfl
@[simp] theorem updMgmt_freeIndex (f : MgmtLink → MgmtLink) :
    (s.updMgmt f).freeIndex = s.freeIndex := rfl
@[simp] theorem updMgmt_pending (f : MgmtLink → MgmtLink) : (s.updMgmt f).pending = s.pending := rfl

/-! ### updGroup -/

@[simp] theorem updGroup_pins (g : GroupId) (f : GroupRec → GroupRec) :
    (s.updGroup g f).pins = s.pins := rfl
@[simp] theorem updGroup_held (g : GroupId) (f : GroupRec → GroupRec) :
    (s.updGroup g f).held = s.held := rfl
@[simp] theorem updGroup_issuing (g : GroupId) (f : GroupRec → GroupRec) :
    (s.updGroup g f).issuing = s.issuing := rfl
@[simp] theorem updGroup_ports (g : GroupId) (f : GroupRec → GroupRec) :
    (s.updGroup g f).ports = s.ports := rfl
@[simp] theorem updGroup_classes (g : GroupId) (f : GroupRec → GroupRec) :
    (s.updGroup g f).classes = s.classes := rfl
@[simp] theorem updGroup_escapeList (g : GroupId) (f : GroupRec → GroupRec) :
    (s.updGroup g f).escapeList = s.escapeList := rfl
@[simp] theorem updGroup_epoch (g : GroupId) (f : GroupRec → GroupRec) :
    (s.updGroup g f).epoch = s.epoch := rfl
@[simp] theorem updGroup_arb (g : GroupId) (f : GroupRec → GroupRec) :
    (s.updGroup g f).arb = s.arb := rfl
@[simp] theorem updGroup_flow (g : GroupId) (f : GroupRec → GroupRec) :
    (s.updGroup g f).flow = s.flow := rfl
@[simp] theorem updGroup_mem (g : GroupId) (f : GroupRec → GroupRec) :
    (s.updGroup g f).mem = s.mem := rfl
@[simp] theorem updGroup_groups (g : GroupId) (f : GroupRec → GroupRec) :
    (s.updGroup g f).groups = s.groups.put g (f (s.groups.get g)) := rfl
@[simp] theorem updGroup_mgmt (g : GroupId) (f : GroupRec → GroupRec) :
    (s.updGroup g f).mgmt = s.mgmt := rfl
@[simp] theorem updGroup_freeIndex (g : GroupId) (f : GroupRec → GroupRec) :
    (s.updGroup g f).freeIndex = s.freeIndex := rfl
@[simp] theorem updGroup_pending (g : GroupId) (f : GroupRec → GroupRec) :
    (s.updGroup g f).pending = s.pending := rfl

/-! ### updPins -/

@[simp] theorem updPins_pins (f : Pins → Pins) : (s.updPins f).pins = f s.pins := rfl
@[simp] theorem updPins_held (f : Pins → Pins) : (s.updPins f).held = s.held := rfl
@[simp] theorem updPins_issuing (f : Pins → Pins) : (s.updPins f).issuing = s.issuing := rfl
@[simp] theorem updPins_ports (f : Pins → Pins) : (s.updPins f).ports = s.ports := rfl
@[simp] theorem updPins_classes (f : Pins → Pins) : (s.updPins f).classes = s.classes := rfl
@[simp] theorem updPins_escapeList (f : Pins → Pins) : (s.updPins f).escapeList = s.escapeList := rfl
@[simp] theorem updPins_epoch (f : Pins → Pins) : (s.updPins f).epoch = s.epoch := rfl
@[simp] theorem updPins_arb (f : Pins → Pins) : (s.updPins f).arb = s.arb := rfl
@[simp] theorem updPins_flow (f : Pins → Pins) : (s.updPins f).flow = s.flow := rfl
@[simp] theorem updPins_mem (f : Pins → Pins) : (s.updPins f).mem = s.mem := rfl
@[simp] theorem updPins_groups (f : Pins → Pins) : (s.updPins f).groups = s.groups := rfl
@[simp] theorem updPins_mgmt (f : Pins → Pins) : (s.updPins f).mgmt = s.mgmt := rfl
@[simp] theorem updPins_freeIndex (f : Pins → Pins) : (s.updPins f).freeIndex = s.freeIndex := rfl
@[simp] theorem updPins_pending (f : Pins → Pins) : (s.updPins f).pending = s.pending := rfl

/-! ### raise -/

@[simp] theorem raise_pins (k : Cause) : (s.raise k).pins = s.pins := rfl
@[simp] theorem raise_held (k : Cause) : (s.raise k).held = s.held := rfl
@[simp] theorem raise_issuing (k : Cause) : (s.raise k).issuing = s.issuing := rfl
@[simp] theorem raise_ports (k : Cause) : (s.raise k).ports = s.ports := rfl
@[simp] theorem raise_classes (k : Cause) : (s.raise k).classes = s.classes := rfl
@[simp] theorem raise_escapeList (k : Cause) : (s.raise k).escapeList = s.escapeList := rfl
@[simp] theorem raise_epoch (k : Cause) : (s.raise k).epoch = s.epoch := rfl
@[simp] theorem raise_arb (k : Cause) : (s.raise k).arb = s.arb := rfl
@[simp] theorem raise_flow (k : Cause) : (s.raise k).flow = s.flow := rfl
@[simp] theorem raise_mem (k : Cause) : (s.raise k).mem = s.mem := rfl
@[simp] theorem raise_groups (k : Cause) :
    (s.raise k).groups = s.groups.put k.group ((s.groups.get k.group).raise k.mask) := rfl
@[simp] theorem raise_mgmt (k : Cause) : (s.raise k).mgmt = s.mgmt := rfl
@[simp] theorem raise_freeIndex (k : Cause) : (s.raise k).freeIndex = s.freeIndex := rfl
@[simp] theorem raise_pending (k : Cause) : (s.raise k).pending = s.pending := rfl

/-! ### unmark -/

@[simp] theorem unmark_pins (c : ClassId) : (s.unmark c).pins = s.pins := rfl
@[simp] theorem unmark_held (c : ClassId) : (s.unmark c).held = s.held := rfl
@[simp] theorem unmark_issuing (c : ClassId) : (s.unmark c).issuing = s.issuing := rfl
@[simp] theorem unmark_ports (c : ClassId) : (s.unmark c).ports = s.ports := rfl
@[simp] theorem unmark_classes (c : ClassId) : (s.unmark c).classes = s.classes := rfl
@[simp] theorem unmark_escapeList (c : ClassId) :
    (s.unmark c).escapeList = s.escapeList.filter (· ≠ c) := rfl
@[simp] theorem unmark_epoch (c : ClassId) : (s.unmark c).epoch = s.epoch := rfl
@[simp] theorem unmark_arb (c : ClassId) : (s.unmark c).arb = s.arb := rfl
@[simp] theorem unmark_flow (c : ClassId) : (s.unmark c).flow = s.flow := rfl
@[simp] theorem unmark_mem (c : ClassId) : (s.unmark c).mem = s.mem := rfl
@[simp] theorem unmark_groups (c : ClassId) : (s.unmark c).groups = s.groups := rfl
@[simp] theorem unmark_mgmt (c : ClassId) : (s.unmark c).mgmt = s.mgmt := rfl
@[simp] theorem unmark_freeIndex (c : ClassId) : (s.unmark c).freeIndex = s.freeIndex := rfl
@[simp] theorem unmark_pending (c : ClassId) : (s.unmark c).pending = s.pending := rfl

/-! ### removeHeld -/

@[simp] theorem removeHeld_pins (gone : StoreEntry → Bool) : (s.removeHeld gone).pins = s.pins := rfl
@[simp] theorem removeHeld_held (gone : StoreEntry → Bool) :
    (s.removeHeld gone).held = s.held.filter (!gone ·) := rfl
@[simp] theorem removeHeld_issuing (gone : StoreEntry → Bool) :
    (s.removeHeld gone).issuing = s.issuing := rfl
@[simp] theorem removeHeld_ports (gone : StoreEntry → Bool) : (s.removeHeld gone).ports = s.ports := rfl
@[simp] theorem removeHeld_classes (gone : StoreEntry → Bool) :
    (s.removeHeld gone).classes = .build fun c =>
      if s.emptiedBy gone c then (s.classes.get c).stopClock else s.classes.get c := rfl
@[simp] theorem removeHeld_escapeList (gone : StoreEntry → Bool) :
    (s.removeHeld gone).escapeList = s.escapeList.filter (!s.emptiedBy gone ·) := rfl
@[simp] theorem removeHeld_epoch (gone : StoreEntry → Bool) : (s.removeHeld gone).epoch = s.epoch := rfl
@[simp] theorem removeHeld_arb (gone : StoreEntry → Bool) : (s.removeHeld gone).arb = s.arb := rfl
@[simp] theorem removeHeld_flow (gone : StoreEntry → Bool) : (s.removeHeld gone).flow = s.flow := rfl
@[simp] theorem removeHeld_mem (gone : StoreEntry → Bool) : (s.removeHeld gone).mem = s.mem := rfl
@[simp] theorem removeHeld_groups (gone : StoreEntry → Bool) :
    (s.removeHeld gone).groups = s.groups := rfl
@[simp] theorem removeHeld_mgmt (gone : StoreEntry → Bool) : (s.removeHeld gone).mgmt = s.mgmt := rfl
@[simp] theorem removeHeld_freeIndex (gone : StoreEntry → Bool) :
    (s.removeHeld gone).freeIndex = s.freeIndex := rfl
@[simp] theorem removeHeld_pending (gone : StoreEntry → Bool) :
    (s.removeHeld gone).pending = s.pending := rfl

/-! ### pauseClocks -/

@[simp] theorem pauseClocks_pins : s.pauseClocks.pins = s.pins := rfl
@[simp] theorem pauseClocks_held : s.pauseClocks.held = s.held := rfl
@[simp] theorem pauseClocks_issuing : s.pauseClocks.issuing = s.issuing := rfl
@[simp] theorem pauseClocks_ports : s.pauseClocks.ports = s.ports := rfl
@[simp] theorem pauseClocks_classes :
    s.pauseClocks.classes = .build fun c =>
      if s.clockCondition c = .running then (s.classes.get c).pauseClock else s.classes.get c := rfl
@[simp] theorem pauseClocks_escapeList : s.pauseClocks.escapeList = s.escapeList := rfl
@[simp] theorem pauseClocks_epoch : s.pauseClocks.epoch = s.epoch := rfl
@[simp] theorem pauseClocks_arb : s.pauseClocks.arb = s.arb := rfl
@[simp] theorem pauseClocks_flow : s.pauseClocks.flow = s.flow := rfl
@[simp] theorem pauseClocks_mem : s.pauseClocks.mem = s.mem := rfl
@[simp] theorem pauseClocks_groups : s.pauseClocks.groups = s.groups := rfl
@[simp] theorem pauseClocks_mgmt : s.pauseClocks.mgmt = s.mgmt := rfl
@[simp] theorem pauseClocks_freeIndex : s.pauseClocks.freeIndex = s.freeIndex := rfl
@[simp] theorem pauseClocks_pending : s.pauseClocks.pending = s.pending := rfl

/-! ### captureClaim -/

@[simp] theorem captureClaim_pins (g : GroupId) : (s.captureClaim g).pins = s.pins := rfl
@[simp] theorem captureClaim_held (g : GroupId) : (s.captureClaim g).held = s.held := rfl
@[simp] theorem captureClaim_issuing (g : GroupId) : (s.captureClaim g).issuing = s.issuing := rfl
@[simp] theorem captureClaim_ports (g : GroupId) : (s.captureClaim g).ports = s.ports := rfl
@[simp] theorem captureClaim_classes (g : GroupId) : (s.captureClaim g).classes = s.classes := rfl
@[simp] theorem captureClaim_escapeList (g : GroupId) :
    (s.captureClaim g).escapeList = s.escapeList := rfl
@[simp] theorem captureClaim_epoch (g : GroupId) : (s.captureClaim g).epoch = s.epoch := rfl
@[simp] theorem captureClaim_arb (g : GroupId) : (s.captureClaim g).arb = s.arb := rfl
@[simp] theorem captureClaim_flow (g : GroupId) : (s.captureClaim g).flow = s.flow := rfl
@[simp] theorem captureClaim_mem (g : GroupId) : (s.captureClaim g).mem = s.mem := rfl
@[simp] theorem captureClaim_groups (g : GroupId) :
    (s.captureClaim g).groups = s.groups.put g { s.groups.get g with claimed := (s.groups.get g).flags } := rfl
@[simp] theorem captureClaim_mgmt (g : GroupId) :
    (s.captureClaim g).mgmt = { s.mgmt with claiming := some g } := rfl
@[simp] theorem captureClaim_freeIndex (g : GroupId) : (s.captureClaim g).freeIndex = s.freeIndex := rfl
@[simp] theorem captureClaim_pending (g : GroupId) : (s.captureClaim g).pending = s.pending := rfl

/-! ### completeClaim -/

@[simp] theorem completeClaim_pins (g : GroupId) : (s.completeClaim g).pins = s.pins := rfl
@[simp] theorem completeClaim_held (g : GroupId) : (s.completeClaim g).held = s.held := rfl
@[simp] theorem completeClaim_issuing (g : GroupId) : (s.completeClaim g).issuing = s.issuing := rfl
@[simp] theorem completeClaim_ports (g : GroupId) : (s.completeClaim g).ports = s.ports := rfl
@[simp] theorem completeClaim_classes (g : GroupId) : (s.completeClaim g).classes = s.classes := rfl
@[simp] theorem completeClaim_escapeList (g : GroupId) :
    (s.completeClaim g).escapeList = s.escapeList := rfl
@[simp] theorem completeClaim_epoch (g : GroupId) : (s.completeClaim g).epoch = s.epoch := rfl
@[simp] theorem completeClaim_arb (g : GroupId) : (s.completeClaim g).arb = s.arb := rfl
@[simp] theorem completeClaim_flow (g : GroupId) : (s.completeClaim g).flow = s.flow := rfl
@[simp] theorem completeClaim_mem (g : GroupId) : (s.completeClaim g).mem = s.mem := rfl
@[simp] theorem completeClaim_groups (g : GroupId) :
    (s.completeClaim g).groups = s.groups.put g
      { s.groups.get g with
        flags := (s.groups.get g).flags &&& ~~~(s.groups.get g).claimed
        claimed := 0 } := rfl
@[simp] theorem completeClaim_mgmt (g : GroupId) :
    (s.completeClaim g).mgmt = { s.mgmt with claiming := none } := rfl
@[simp] theorem completeClaim_freeIndex (g : GroupId) :
    (s.completeClaim g).freeIndex = s.freeIndex := rfl
@[simp] theorem completeClaim_pending (g : GroupId) : (s.completeClaim g).pending = s.pending := rfl

end Sys2Proof.Machine.State
end

