-- ==== Sys2Proof/Laws/Ops.lean ====
section
/-! SUPPORT. Laws/Ops.lean: what each shared operation does, said once: the addresses of the management space, the
taking of a word, causes, budgets, chains and queues, and the arbiter's ring. -/

namespace Sys2Proof.Machine

/-! ## Causes (R145) -/

/-- A raise sets the cause's flag in its group and takes it out of the claimed set. -/
theorem State.raise_eq (s : State) (k : Cause) : s.raise k = s.withCause k.group k.bit := rfl

/-! ## Addresses (R169) -/

theorem counterAddress_lt (n : CounterId) : 0x0800 ≤ counterAddress n ∧ counterAddress n < 0x0834 := by
  cases n <;> simp only [counterAddress] <;> omega

/-- Every mapped word's address is an address of the management space. -/
theorem MgmtWord.address_lt (w : MgmtWord) : w.address < 65536 := by
  cases w <;> simp only [MgmtWord.address] <;> (try split) <;> (try omega)
  next n => have := counterAddress_lt n; omega

/-- Only the COMMAND word stands at address 0x0008. -/
theorem MgmtWord.address_eq_command {w : MgmtWord} (h : w.address = 8) : w = .command := by
  cases w <;> simp only [MgmtWord.address] at h <;> (try split at h) <;> (try omega) <;> (try rfl)
  next n => have := counterAddress_lt n; omega

theorem MgmtWord.addr_toNat (w : MgmtWord) : w.addr.toNat = w.address := by
  simp [MgmtWord.addr, Nat.mod_eq_of_lt w.address_lt]

theorem MgmtWord.addr_ne_command {w : MgmtWord} (h : w ≠ .command) : w.addr ≠ 8#16 := by
  intro h8
  exact h (MgmtWord.address_eq_command (by rw [← w.addr_toNat, h8]; rfl))

/-! ## Words (R161 to R163) -/

/-- Off the COMMAND word the current address rises by 1. -/
theorem MgmtLink.advance_of_ne {m : MgmtLink} (h : m.address ≠ 8#16) :
    m.advance = { m with address := m.address + 1 } := by
  unfold MgmtLink.advance
  exact if_neg h

/-- At the COMMAND word the current address stays. -/
theorem MgmtLink.advance_of_eq {m : MgmtLink} (h : m.address = 8#16) : m.advance = m := by
  unfold MgmtLink.advance
  exact if_pos h

/-- What a refused word records is what R163 gives. -/
theorem State.refuseWord_eq (s : State) (r : Reject) : s.refuseWord r = s.wordRefused r := by
  simp only [State.refuseWord, State.wordRefused, State.raise, State.updMgmt, Cause.group, deviceGroup,
    GroupRec.raise, Cause.mask, Cause.bit, DeviceCause.bit]
  cases s.mgmt.failure <;> rfl

theorem State.wordRefused_address (s : State) (r : Reject) :
    (s.wordRefused r).mgmt.address = s.mgmt.address := by
  simp only [State.wordRefused]
  split <;> rfl

/-- In a WRITE frame at the word's address, the word is taken. -/
theorem State.writeWord_of_writing {s : State} {w : MgmtWord} {own : State → Except Reject State}
    (h : s.WritingAt w.addr) : s.writeWord w own = s.takeWord own := by
  obtain ⟨h1, h2, h3⟩ := h
  simp [State.writeWord, State.writingAt, State.awake, h1, h2, h3]

/-- An accepted word off COMMAND: the owner's effect, and the address rises by 1. -/
theorem State.takeWord_accepted {s t : State} {own : State → Except Reject State} (h : own s = .ok t)
    (hm : t.mgmt = s.mgmt) (h8 : s.mgmt.address ≠ 8#16) : s.takeWord own = t.wordPassed := by
  simp only [State.takeWord, h, State.updMgmt, State.wordPassed, hm, MgmtLink.advance_of_ne h8]

/-- A refused word off COMMAND: what R163 gives, and the address rises by 1. -/
theorem State.takeWord_refused {s : State} {own : State → Except Reject State} {r : Reject}
    (h : own s = .error r) (h8 : s.mgmt.address ≠ 8#16) : s.takeWord own = (s.wordRefused r).wordPassed := by
  simp only [State.takeWord, h, State.refuseWord_eq, State.updMgmt, State.wordPassed]
  rw [MgmtLink.advance_of_ne (by rw [State.wordRefused_address]; exact h8)]

/-- An accepted command: its effect, and the address stays. -/
theorem State.takeWord_accepted_command {s t : State} {own : State → Except Reject State} (h : own s = .ok t)
    (hm : t.mgmt = s.mgmt) (h8 : s.mgmt.address = 8#16) : s.takeWord own = t := by
  simp only [State.takeWord, h, State.updMgmt, hm, MgmtLink.advance_of_eq h8]
  rw [← hm]

/-- A refused command: what R163 gives, and the address stays. -/
theorem State.takeWord_refused_command {s : State} {own : State → Except Reject State} {r : Reject}
    (h : own s = .error r) (h8 : s.mgmt.address = 8#16) : s.takeWord own = s.wordRefused r := by
  simp only [State.takeWord, h, State.refuseWord_eq, State.updMgmt]
  rw [MgmtLink.advance_of_eq (by rw [State.wordRefused_address]; exact h8)]

/-- A word of a WRITE frame at the word `w`, which is not COMMAND, accepted. -/
theorem State.writeWord_accepted {s t : State} {w : MgmtWord} {own : State → Except Reject State}
    (hw : s.WritingAt w.addr) (hc : w ≠ .command) (h : own s = .ok t) (hm : t.mgmt = s.mgmt) :
    s.writeWord w own = t.wordPassed := by
  rw [State.writeWord_of_writing hw,
    State.takeWord_accepted h hm (by rw [hw.2.2]; exact MgmtWord.addr_ne_command hc)]

/-- A word of a WRITE frame at the word `w`, which is not COMMAND, refused by its owner. -/
theorem State.writeWord_refused {s : State} {w : MgmtWord} {own : State → Except Reject State} {r : Reject}
    (hw : s.WritingAt w.addr) (hc : w ≠ .command) (h : own s = .error r) :
    s.writeWord w own = (s.wordRefused r).wordPassed := by
  rw [State.writeWord_of_writing hw,
    State.takeWord_refused h (by rw [hw.2.2]; exact MgmtWord.addr_ne_command hc)]

/-- A command word accepted. -/
theorem State.writeCommand_accepted {s t : State} {own : State → Except Reject State}
    (hw : s.WritingAt 0x0008) (h : own s = .ok t) (hm : t.mgmt = s.mgmt) : s.writeWord .command own = t := by
  rw [State.writeWord_of_writing (w := .command) hw, State.takeWord_accepted_command h hm hw.2.2]

/-- A command word refused. -/
theorem State.writeCommand_refused {s : State} {own : State → Except Reject State} {r : Reject}
    (hw : s.WritingAt 0x0008) (h : own s = .error r) : s.writeWord .command own = s.wordRefused r := by
  rw [State.writeWord_of_writing (w := .command) hw, State.takeWord_refused_command h hw.2.2]

/-- Whatever a word does, its result is the owner's state or the refused state, with the frame's own fields moved
on, or the state itself where no word is received. -/
theorem State.writeWord_cases (s : State) (w : MgmtWord) (own : State → Except Reject State) :
    s.writeWord w own = s
      ∨ (∃ t, own s = .ok t ∧ s.writeWord w own = t.updMgmt MgmtLink.advance)
      ∨ ∃ r, own s = .error r ∧ s.writeWord w own = (s.wordRefused r).updMgmt MgmtLink.advance := by
  unfold State.writeWord
  split
  · right
    unfold State.takeWord
    split
    · next t h => exact .inl ⟨t, h, rfl⟩
    · next r h => exact .inr ⟨r, h, by rw [State.refuseWord_eq]⟩
  · exact .inl rfl

/-- An accepted check gives its result. -/
theorem accept_eq_ok {ok : Bool} {r : Reject} {t u : State} (h : accept ok r u = .ok t) : ok = true ∧ t = u := by
  unfold accept at h
  split at h
  · next hb => exact ⟨hb, by injection h with h; exact h.symm⟩
  · cases h

/-- A port command that is accepted names a port. -/
theorem onPort_eq_ok {arg : Byte} {f : Port → State → Except Reject State} {s t : State}
    (h : onPort arg f s = .ok t) : ∃ p : Port, arg.toNat = p.val ∧ f p s = .ok t := by
  unfold onPort at h
  split at h
  · next hp => exact ⟨⟨_, hp⟩, rfl, h⟩
  · cases h

/-- A class command that is accepted names a class. -/
theorem onClass_eq_ok {arg : Byte} {f : ClassId → State → State} {s t : State}
    (h : onClass arg f s = .ok t) : ∃ c : ClassId, arg.toNat = c.val ∧ t = f c s := by
  unfold onClass at h
  split at h
  · next hc => exact ⟨⟨_, hc⟩, rfl, by injection h with h; exact h.symm⟩
  · cases h

theorem onPort_of_lt {arg : Byte} {f : Port → State → Except Reject State} {s : State} {p : Port}
    (h : arg.toNat = p.val) : onPort arg f s = f p s := by
  unfold onPort
  rw [dif_pos (by omega)]
  congr 1
  exact Fin.ext h

theorem onPort_of_ge {arg : Byte} {f : Port → State → Except Reject State} {s : State} (h : 4 ≤ arg.toNat) :
    onPort arg f s = .error .badValue := by
  unfold onPort
  rw [dif_neg (by omega)]

theorem onClass_of_lt {arg : Byte} {f : ClassId → State → State} {s : State} {c : ClassId}
    (h : arg.toNat = c.val) : onClass arg f s = .ok (f c s) := by
  unfold onClass
  rw [dif_pos (by omega)]
  congr 2
  exact Fin.ext h

theorem onClass_of_ge {arg : Byte} {f : ClassId → State → State} {s : State} (h : 8 ≤ arg.toNat) :
    onClass arg f s = .error .badValue := by
  unfold onClass
  rw [dif_neg (by omega)]

/-! ## Counters (R152) -/

theorem bump_eq (n k : Nat) : bump n k = counted n k := by
  unfold bump counted Config.counterMax
  split <;> omega

/-! ## Conditions of the manual and the model's tests of them -/

/-- READY is the model's head condition (R9). -/
theorem State.headReady_iff (s : State) (c : ClassId) : s.headReady c = true ↔ s.Ready c := by
  unfold State.headReady State.headCondition State.Ready State.orderEligible State.queue State.chain
  cases h : s.held.filter (·.cls = c) with
  | nil => simp
  | cons e rest =>
    simp only [List.head?_cons, Option.some.injEq, exists_eq_left']
    split <;> simp_all

theorem State.eligible_iff (s : State) (c : ClassId) : s.eligible c = true ↔ s.Eligible c := by
  unfold State.eligible State.Eligible ClassRec.budgetEligible
  rw [Bool.and_eq_true, State.headReady_iff]
  cases h : (s.classes.get c).mode <;> simp [Mode.metered]

theorem State.escapeCandidate_iff (s : State) (c : ClassId) : s.escapeCandidate c = true ↔ s.Escaping c := by
  unfold State.escapeCandidate State.Escaping State.marked
  rw [Bool.and_eq_true, State.headReady_iff]
  simp

/-- The lowest FREE tag (R55). -/
theorem MemPort.lowestFree_eq_some {m : MemPort} {d : DTag} (h : m.lowestFree = some d) :
    m.table.get d = .free ∧ ∀ d', d' < d → m.table.get d' ≠ .free := by
  unfold MemPort.lowestFree at h
  obtain ⟨hd, before, after, hl, hb⟩ := List.find?_eq_some_iff_append.mp h
  have free_iff : ∀ x, (m.table.get x).isFree = true ↔ m.table.get x = .free := by
    intro x; cases m.table.get x <;> simp [InFlight.isFree]
  refine ⟨(free_iff d).mp hd, fun d' hlt hf => ?_⟩
  have hmem : d' ∈ before ++ d :: after := hl ▸ List.mem_finRange d'
  have hs : (before ++ d :: after).Pairwise (· < ·) := by
    rw [← hl]; exact List.pairwise_lt_finRange 64
  rw [List.pairwise_append] at hs
  rcases List.mem_append.mp hmem with hm | hm
  · have := hb d' hm
    rw [(free_iff d').mpr hf] at this
    cases this
  · rcases List.mem_cons.mp hm with rfl | hm
    · exact absurd hlt (lt_irrefl _)
    · have := List.rel_of_pairwise_cons hs.2.1 hm
      exact absurd (lt_trans hlt this) (lt_irrefl _)

theorem MemPort.lowestFree_isSome_iff (m : MemPort) :
    m.lowestFree.isSome = true ↔ ∃ t, m.table.get t = .free := by
  unfold MemPort.lowestFree
  rw [List.find?_isSome]
  constructor
  · rintro ⟨t, -, ht⟩
    refine ⟨t, ?_⟩
    revert ht
    cases m.table.get t <;> simp [InFlight.isFree]
  · rintro ⟨t, ht⟩
    exact ⟨t, List.mem_finRange t, by rw [ht]; rfl⟩

theorem State.decisionDue_iff (s : State) : (s.awake && s.decisionDue) = true ↔ s.DecisionDue := by
  unfold State.awake State.decisionDue State.DecisionDue State.candidate
  simp only [Bool.and_eq_true, Bool.not_eq_true', beq_iff_eq, Option.isNone_iff_eq_none,
    MemPort.lowestFree_isSome_iff, decide_eq_true_eq, List.any_eq_true, List.mem_finRange, true_and,
    Bool.or_eq_true, State.eligible_iff, State.escapeCandidate_iff, and_assoc]

theorem Arbiter.endTenure_eq (a : Arbiter) : a.endTenure = a.ended := by
  unfold Arbiter.endTenure Arbiter.ended moveLast
  cases a.holder with
  | none => rfl
  | some h => cases a.mode <;> rfl

/-! ## The ring stays a permutation (R45) -/

/-- `moveLast` keeps every class exactly once. -/
theorem moveLast_perm {ring : List ClassId} {c : ClassId} (hn : ring.Nodup) (hc : c ∈ ring) :
    (moveLast ring c).Perm ring := by
  unfold moveLast
  have h : (ring.filter (· ≠ c)).Perm (ring.erase c) := by
    rw [hn.erase_eq_filter, List.filter_congr (q := (· != c)) fun x _ => by by_cases h : x = c <;> simp [h]]
  exact ((List.perm_append_singleton c _).trans (h.cons c)).trans (List.perm_cons_erase hc).symm

/-- A ring split at the class that SET_LOWEST names. -/
theorem rotateLast_split {above below : List ClassId} {c : ClassId} (h : c ∉ above) :
    rotateLast (above ++ c :: below) c = below ++ above ++ [c] := by
  have hp : ∀ x ∈ above, decide (x ≠ c) = true := fun x hx => by
    simpa using fun hxc : x = c => h (hxc ▸ hx)
  have ht : (above ++ c :: below).takeWhile (· ≠ c) = above := by
    rw [List.takeWhile_append_of_pos hp]; simp
  have hd : (above ++ c :: below).dropWhile (· ≠ c) = c :: below := by
    rw [List.dropWhile_append_of_pos hp]; simp
  unfold rotateLast
  rw [ht, hd]
  rfl

theorem rotateLast_perm {ring : List ClassId} {c : ClassId} (hc : c ∈ ring) : (rotateLast ring c).Perm ring := by
  obtain ⟨above, below, rfl, h⟩ := List.eq_append_cons_of_mem hc
  rw [rotateLast_split h]
  rw [List.append_assoc]
  exact (List.perm_append_comm (l₁ := below)).trans (by simp)

/-! ## Wait clocks (R61, R68) -/

theorem State.clockCondition_iff (s : State) (c : ClassId) : s.clockCondition c = .running ↔ s.Runs c := by
  unfold State.clockCondition State.Runs
  by_cases hq : s.queue c = [] <;> by_cases ha : (s.classes.get c).activeWait = 0 <;>
    by_cases hs : (s.classes.get c).strikes = 2 <;> by_cases hl : s.mem.link = .up <;> simp [hq, ha, hs, hl]

/-- What the link's leaving of UP does to a class (R61, R68). -/
theorem State.pauseClocks_class (s : State) (c : ClassId) :
    s.pauseClocks.classes.get c = { s.classes.get c with
      clock := if s.Runs c ∧ (s.classes.get c).activeWait ≤ (s.classes.get c).clock
        then (s.classes.get c).activeWait - 1 else (s.classes.get c).clock } := by
  rw [State.pauseClocks_classes, Table.get_build]
  by_cases h : s.Runs c
  · rw [if_pos ((s.clockCondition_iff c).mpr h)]
    unfold ClassRec.pauseClock
    congr 1
    have := h.2.1
    by_cases hle : (s.classes.get c).activeWait ≤ (s.classes.get c).clock
    · rw [if_pos ⟨h, hle⟩]; omega
    · rw [if_neg (hle ·.2)]; omega
  · rw [if_neg (fun x => h ((s.clockCondition_iff c).mp x)), if_neg (fun x => h x.1)]

/-! ## Removals of HELD entries (R16, R66) -/

/-- What a removal leaves in a class queue. -/
theorem State.removeHeld_queue (s : State) (gone : StoreEntry → Bool) (c : ClassId) :
    (s.removeHeld gone).queue c = (s.queue c).filter (!gone ·) := by
  simp only [State.removeHeld, State.queue, List.filter_filter]
  exact List.filter_congr fun x _ => by rw [Bool.and_comm]

/-- A class is emptied by a removal when its queue held an entry before and holds none after. -/
theorem State.emptiedBy_iff (s : State) (gone : StoreEntry → Bool) (c : ClassId) :
    s.emptiedBy gone c = true ↔ s.queue c ≠ [] ∧ (s.removeHeld gone).queue c = [] := by
  rw [State.removeHeld_queue]
  unfold State.emptiedBy
  simp only [Bool.and_eq_true, List.isEmpty_eq_false_iff, List.all_eq_true,
    List.filter_eq_nil_iff, ne_eq, Bool.not_eq_eq_eq_not, Bool.not_true, Bool.not_eq_false]

theorem State.removeHeld_class (s : State) (gone : StoreEntry → Bool) (c : ClassId) :
    (s.removeHeld gone).classes.get c =
      if s.emptiedBy gone c = true then (s.classes.get c).stopClock else s.classes.get c := by
  simp [State.removeHeld]

/-- A state whose HELD entries, classes and escape list are those of a removal is one that the monitor has
followed (R66). -/
theorem monitorFollows_of_removal {s t : State} {gone : StoreEntry → Bool}
    (hh : t.held = (s.removeHeld gone).held) (hc : t.classes = (s.removeHeld gone).classes)
    (he : t.escapeList = (s.removeHeld gone).escapeList) : MonitorFollows s t := by
  have hq : ∀ c, t.queue c = (s.removeHeld gone).queue c := fun c => by simp only [State.queue, hh]
  have hiff : ∀ c, s.emptiedBy gone c = true ↔ s.queue c ≠ [] ∧ t.queue c = [] := fun c => by
    rw [hq]; exact s.emptiedBy_iff gone c
  refine ⟨fun c => ?_, ?_⟩
  · rw [hc, State.removeHeld_class]
    by_cases h : s.emptiedBy gone c = true
    · rw [if_pos h, if_pos ((hiff c).mp h)]
      rfl
    · rw [if_neg h, if_neg (fun x => h ((hiff c).mpr x))]
  · rw [he]
    refine List.filter_congr fun c _ => ?_
    congr 1
    rw [Bool.eq_iff_iff, decide_eq_true_eq]
    exact hiff c

end Sys2Proof.Machine
end

