-- ==== Sys2Proof/Laws/Effects.lean ====
section
/-! SUPPORT. Laws/Effects.lean: what the effects that several commands share do to the state, said once: the cutting
off of a port, the clearing of the memory port, and the removal of HELD requests with their answers. -/

namespace Sys2Proof.Machine

/-- Credits given, in the words of the statements (R113). -/
theorem PortRec.returnCredits_eq (k : PortRec) (n : Nat) : k.returnCredits n = k.given n := rfl

/-! ## A port cut off (R109) -/

/-- A state that has the store, the monitor, the memory port and the other ports of `cutPort` is cut off from port
`p`. -/
theorem cutFrom_of_cutPort {s t : State} {p : Port} (hh : t.held = (s.cutPort p).held)
    (hc : t.classes = (s.cutPort p).classes) (he : t.escapeList = (s.cutPort p).escapeList)
    (hm : t.mem = (s.cutPort p).mem) (hp : ∀ q, q ≠ p → t.ports.get q = (s.cutPort p).ports.get q) :
    CutFrom s t p := by
  refine ⟨?_, monitorFollows_of_removal (gone := (·.port = p)) hh hc he, fun d => ?_, ?_, fun q hq => ?_⟩
  · rw [hh]
    simp [State.cutPort, State.removeHeld, State.updMem, State.updPort]
  · rw [hm]
    simp only [State.cutPort, State.removeHeld, State.updMem, State.updPort, Table.get_build]
    cases s.mem.table.get d <;> rfl
  · rw [hm]
    rfl
  · rw [hp q hq]
    simp [State.cutPort, State.removeHeld, State.updMem, State.updPort, Table.get_put, Ne.symm hq]

/-- Port `p` itself after it is cut off. -/
theorem State.cutPort_self (s : State) (p : Port) : (s.cutPort p).ports.get p = (s.ports.get p).cut := by
  simp [State.cutPort, State.removeHeld, PortRec.clearTraffic, PortRec.cut]

/-! ## The memory port cleared (R138, R139) -/

/-- The ABORTED answers of the IN_FLIGHT requests of a port, in the order of the downstream tags. -/
theorem State.flightAborts_eq (s : State) (p : Port) :
    (s.mem.inFlightRecords.filter (·.port = p)).map (fun r => abortedResponse r.hostTag) = s.flightAborts p := by
  unfold MemPort.inFlightRecords State.flightAborts abortedResponse
  rw [List.filter_filterMap, List.map_filterMap, List.map_filterMap]
  congr 1
  funext t
  cases s.mem.table.get t with
  | inFlight r left => simp only [Option.filter]; split <;> simp_all
  | _ => rfl

/-- What a clearing of the memory port does to each port: the aborted answers, and the credit of an abandoned
send. -/
theorem State.clearDownstream_port (s : State) (p : Port) :
    s.clearDownstream.ports.get p =
      ({ s.ports.get p with queue := (s.ports.get p).queue ++ s.flightAborts p }).given (s.issuingOf p) := by
  rw [← State.flightAborts_eq]
  cases h : s.issuing with
  | none => simp [State.clearDownstream, State.freeIssuing, h, State.issuingOf, PortRec.given]
  | some e =>
    simp only [State.clearDownstream, State.freeIssuing, h, State.issuingOf, PortRec.returnCredits_eq,
      State.updMem_ports, State.updPort_ports, State.updPorts_ports, State.updPorts_issuing, State.pauseClocks_ports,
      State.pauseClocks_issuing]
    by_cases he : e.port = p
    · subst he
      simp [List.filter]
    · simp [Table.get_put, he, List.filter, PortRec.given]

/-- The memory port after it is cleared. -/
theorem State.clearDownstream_mem (s : State) :
    s.clearDownstream.mem = { s.mem with table := .build fun _ => .free, dTx := none, credits := 0 } := by
  cases h : s.issuing <;> simp [State.clearDownstream, State.freeIssuing, h]

/-- A clearing of the memory port touches the memory port, the ISSUING entry, the ports and the wait clocks
alone. -/
theorem State.clearDownstream_frame (s : State) :
    s.clearDownstream =
      { s with
        mem := s.clearDownstream.mem, issuing := none, ports := s.clearDownstream.ports
        classes := s.clearDownstream.classes } := by
  cases h : s.issuing
  · simp only [State.clearDownstream, State.freeIssuing, State.updPorts, State.pauseClocks, h]
    simp [State.updMem, ← h]
  · simp only [State.clearDownstream, State.freeIssuing, State.updPorts, State.pauseClocks, h]
    rfl

/-- The classes after a clearing of the memory port: the RUNNING clocks are PAUSED. -/
theorem State.clearDownstream_classes (s : State) : s.clearDownstream.classes = s.pauseClocks.classes := by
  cases h : s.issuing <;> simp [State.clearDownstream, State.freeIssuing, h]

theorem State.clearDownstream_issuing (s : State) : s.clearDownstream.issuing = none := by
  rw [State.clearDownstream_frame]

/-- A downstream reset touches the memory port, the ISSUING entry, the ports and the wait clocks alone (R139). -/
theorem State.resetDownstream_frame (s : State) :
    s.resetDownstream =
      { s with
        mem := s.resetDownstream.mem, issuing := none, ports := s.resetDownstream.ports
        classes := s.resetDownstream.classes } := by
  unfold State.resetDownstream
  rw [State.updMem, s.clearDownstream_frame]

/-- Steps 2 to 5 of a memory link loss, as the statements say them. -/
theorem State.clearDownstream_cleared (s : State) : ClearedDownstream s s.clearDownstream := by
  refine ⟨fun d => ?_, ?_, s.clearDownstream_issuing, s.clearDownstream_port, fun c => ?_⟩
  · rw [s.clearDownstream_mem]
    simp
  · rw [s.clearDownstream_mem]
  · rw [s.clearDownstream_classes, s.pauseClocks_class]

/-! ## LATE entries (R135, R136) -/

/-- An entry that becomes LATE raises the LATE count by one. -/
theorem MemPort.lateCount_put (m : MemPort) (d : DTag) (r : FlightRecord)
    (h : (m.table.get d).isLate = false) : (m.putEntry d (.late r)).lateCount = m.lateCount + 1 := by
  unfold MemPort.lateCount MemPort.putEntry
  have hn := List.nodup_finRange 64
  have hd := List.mem_finRange d
  generalize List.finRange 64 = l at *
  have other : ∀ l : List DTag, d ∉ l →
      (l.filter fun t => ((m.table.put d (.late r)).get t).isLate) = l.filter fun t => (m.table.get t).isLate := by
    intro l hl
    refine List.filter_congr fun x hx => ?_
    rw [Table.get_put_of_ne _ _ (by rintro rfl; exact hl hx)]
  obtain ⟨a, b, rfl⟩ := List.append_of_mem hd
  rw [List.nodup_append] at hn
  have ha : d ∉ a := fun hx => hn.2.2 d hx d (List.mem_cons_self ..) rfl
  have hb : d ∉ b := (List.nodup_cons.mp hn.2.1).1
  simp only [List.filter_append, List.filter_cons, Table.get_put_self, h, List.length_append]
  rw [other a ha, other b hb]
  simp only [InFlight.isLate, if_true, List.length_cons, Bool.false_eq_true, if_false]
  omega

/-- An entry that becomes LATE, with QUARANTINE raised where the LATE count rises from below the level to it
(R136). -/
theorem State.makeLate_eq (s : State) (d : DTag) (r : FlightRecord) (h : (s.mem.table.get d).isLate = false) :
    s.makeLate d r =
      if s.mem.lateCount < s.mem.quarantineLevel ∧ s.mem.quarantineLevel ≤ s.mem.lateCount + 1 then
        (s.updMem (·.putEntry d (.late r))).withCause 12 7
      else s.updMem (·.putEntry d (.late r)) := by
  unfold State.makeLate State.quarantineCheck
  have hl : (s.updMem (·.putEntry d (.late r))).mem.lateCount = s.mem.lateCount + 1 :=
    s.mem.lateCount_put d r h
  have hq : (s.updMem (·.putEntry d (.late r))).mem.quarantineLevel = s.mem.quarantineLevel := rfl
  simp only [hl, hq, Bool.and_eq_true, decide_eq_true_eq]
  rfl

/-! ## HELD requests removed with their answers (R14, R19) -/

/-- What a removal of HELD requests does to each port: an ABORTED answer for each while the port serves its host,
and its credits back while it is OPEN. -/
theorem State.abortHeld_port (s : State) (gone : StoreEntry → Bool) (p : Port) :
    (s.abortHeld gone).ports.get p =
      ({ s.ports.get p with queue := (s.ports.get p).queue ++ s.heldAborts p gone }).given
        (s.heldOf p gone).length := by
  simp only [State.abortHeld, State.heldAborts, State.heldOf, PortRec.returnCredits_eq, abortedResponse,
    State.updPorts_ports, Table.get_build]
  cases hs : (s.ports.get p).state <;> simp [PortState.serving, State.removeHeld, hs]

/-! ## Captures (R149, R160) -/

/-- What an address reads as does not depend on the frame, but for LAST_REJECT. -/
theorem State.readAt_updMgmt (s : State) (f : MgmtLink → MgmtLink) (a : Addr)
    (h : (f s.mgmt).lastReject = s.mgmt.lastReject) : (s.updMgmt f).readAt a = s.readAt a := by
  unfold State.readAt
  cases decodeAddr a with
  | none => rfl
  | some w =>
    cases w with
    | inFlight t k => cases k <;> rfl
    | lastReject => simp only [State.wordValue, State.updMgmt, MgmtLink.lastRejectWord, h]
    | _ => rfl

/-- A frame that reads on at a word that is no claim word captures it and changes nothing else. -/
theorem State.captureAt_plain (s : State) (a : Addr) (h : ∀ g, decodeAddr a ≠ some (.claim g)) :
    s.captureAt a = { s with mgmt := { s.mgmt with address := a, readWord := s.readAt a } } := by
  have hr := s.readAt_updMgmt (fun m => { m with address := a }) a rfl
  unfold State.captureAt State.captureWord
  split
  · next g hg => exact absurd hg (h g)
  · simp only [State.updMgmt] at hr ⊢
    rw [hr]

/-- A frame that reads on at a claim word shows the flags of its group and makes them the claimed set. -/
theorem State.captureAt_claim (s : State) (a : Addr) (g : GroupId) (h : decodeAddr a = some (.claim g)) :
    s.captureAt a = { s with
      mgmt := { s.mgmt with
        address := a, claiming := some g, readWord := (s.groups.get g).flags.zeroExtend 32 }
      groups := s.groups.put g { s.groups.get g with claimed := (s.groups.get g).flags } } := by
  simp only [State.captureAt, State.captureWord, State.updMgmt, h, State.captureClaim, State.readAt,
    State.wordValue]

end Sys2Proof.Machine
end

