-- ==== Sys2Proof/Laws/Grant.lean ====
section
/-! SUPPORT. Laws/Grant.lean: the parts of a decision and of a grant, each said once (R49 to R54). -/

namespace Sys2Proof.Machine

/-! ## The choice -/

/-- The first class of a list that has a property: no class before it has it. -/
theorem find_first {ring : List ClassId} {p : ClassId → Bool} {c : ClassId} (h : ring.find? p = some c) :
    p c = true ∧ (∃ before after, ring = before ++ c :: after ∧ ∀ x ∈ before, ¬p x = true)
      ∧ ∀ x ∈ ring.takeWhile (· ≠ c), ¬p x = true := by
  obtain ⟨hc, before, after, rfl, hb⟩ := List.find?_eq_some_iff_append.mp h
  have hb : ∀ x ∈ before, ¬p x = true := fun x hx => by simpa using hb x hx
  have hne : ∀ x ∈ before, decide (x ≠ c) = true := fun x hx => by
    rw [decide_eq_true_eq]
    rintro rfl
    exact hb _ hx hc
  refine ⟨hc, ⟨before, after, rfl, hb⟩, fun x hx => hb x ?_⟩
  rw [List.takeWhile_append_of_pos hne] at hx
  simpa using hx

/-- Settling the tenure touches the arbiter alone (R50). -/
theorem State.settleTenure_frame (s : State) : s.settleTenure = { s with arb := s.settleTenure.arb } := by
  unfold State.settleTenure
  split <;> rfl

theorem State.tenureStale_iff (s : State) : s.tenureStale = true ↔ s.TenureEndsFirst := by
  unfold State.tenureStale State.TenureEndsFirst
  cases s.arb.holder with
  | none => simp
  | some h => simp [← State.eligible_iff]

/-- The arbiter on which the choice is made (R50, R52). -/
theorem State.settleTenure_arb (s : State) :
    s.settleTenure.arb = if s.tenureStale then s.arb.ended else s.arb := by
  unfold State.settleTenure
  split
  · exact s.arb.endTenure_eq
  · rfl

/-! ## The parts of a grant (R54) -/

theorem ClassRec.charge_eq (k : ClassRec) (n : Nat) :
    k.charge n = { k with budget := if k.mode ≠ .unmetered then k.budget - n else k.budget } := by
  unfold ClassRec.charge
  rcases k with ⟨m⟩
  cases m <;> rfl

theorem ClassRec.spends_iff (k : ClassRec) (n : Nat) :
    k.spends n = true ↔ k.mode = .hold ∧ 0 < k.budget ∧ k.budget - n ≤ 0 := by
  simp [ClassRec.spends, and_assoc]

/-- 2. The budget unit (R24 to R26). -/
theorem State.grantBudget_eq (s : State) (c : ClassId) (kind : GrantKind) (n : Nat) :
    s.grantBudget c kind n = { s with
      classes := if kind = .escape then s.classes else s.classes.put c ((s.classes.get c).charge n)
      groups := (if kind ≠ .escape ∧ (s.classes.get c).spends n then s.withCause (classGroup c) 0 else s).groups } := by
  unfold State.grantBudget
  cases kind <;> cases h : (s.classes.get c).spends n <;>
    simp [GrantKind.normal, State.updClass, State.raise_eq, State.withCause, Cause.group, Cause.bit, ClassCause.bit]

/-- 5. The starvation monitor (R65, R66). -/
theorem State.grantMonitor_eq (s : State) (c : ClassId) (kind : GrantKind) :
    s.grantMonitor c kind = { s with
      classes := s.classes.put c { s.classes.get c with
        strikes := 0
        clock := 0
        activeWait := (s.classes.get c).writtenWait
        escapeGrants := if kind = .escape then bump (s.classes.get c).escapeGrants 1
          else (s.classes.get c).escapeGrants }
      escapeList := s.escapeList.filter (· ≠ c)
      groups := (if kind = .escape then s.withCause (classGroup c) 2 else s).groups } := by
  unfold State.grantMonitor
  cases kind <;>
    simp [State.updClass, State.unmark, State.raise_eq, State.withCause, Cause.group, Cause.bit,
      ClassCause.bit, ClassRec.restartClock]

end Sys2Proof.Machine
end

