-- ==== Sys2Proof/Laws/Intake.lean ====
section
/-! SUPPORT. Laws/Intake.lean: the checks of an arriving request are the conditions that the manual gives, one by one
(R74, R93 to R101). -/

namespace Sys2Proof.Machine

theorem requestKind_eq_some (k : Option PacketKind) (kind : ReqKind) :
    requestKind k = some kind ↔ k = some kind.packetKind := by
  rcases k with _ | k
  · simp [requestKind]
  · cases k <;> cases kind <;> simp [requestKind, ReqKind.packetKind]

/-- Step 1 (R74). -/
theorem State.admits_iff (s : State) (p : Port) (k : HostPacket) (kind : ReqKind) :
    (s.ports.get p).admits k = some kind ↔ s.Admits p k kind := by
  unfold PortRec.admits State.Admits
  rw [← requestKind_eq_some]
  split
  · split
    · simp_all
    · simp_all only [Option.some.injEq, List.contains_eq_mem, true_and]
      constructor
      · intro h
        split at h
        · cases h
        · next hn => exact ⟨by injection h, by simpa using hn⟩
      · rintro ⟨rfl, h⟩
        rw [if_neg (by simpa using h)]
  · simp_all

/-- Step 2 (R96). -/
theorem HostPacket.wellFormed_iff (k : HostPacket) (kind : ReqKind) :
    k.wellFormed kind = true ↔ ¬k.Malformed kind := by
  unfold HostPacket.wellFormed HostPacket.Malformed pageOf lastUnit expectedPayload Config.unitsPerPage
    Config.unitBytes
  simp only [Bool.and_eq_true, decide_eq_true_eq, beq_iff_eq, not_or, not_le]
  cases k.wholeHeader <;> cases kind <;> simp <;> omega

/-- Step 3 (R97). -/
theorem State.withinLimit_iff (s : State) (k : HostPacket) : s.withinLimit k = true ↔ ¬s.BeyondLimit k := by
  unfold State.withinLimit State.BeyondLimit lastUnit Config.unitsPerMiB
  rw [decide_eq_true_eq, not_le]

/-- A flow entry matches (R93). -/
theorem FlowEntry.matchesRequest_iff (e : FlowEntry) (p : Port) (kind : ReqKind) (k : HostPacket) :
    e.matchesRequest p kind k = true ↔ e.Matches p kind k := by
  unfold FlowEntry.matchesRequest FlowEntry.Matches lastUnit
  cases h : e.operation <;> cases kind <;> simp [Operation.admits, and_assoc]

/-- Lookup gives what R94 gives. -/
theorem State.lookup_looksUp (s : State) (p : Port) (kind : ReqKind) (k : HostPacket) :
    s.LooksUp p kind k (s.lookup p kind k) := by
  unfold State.lookup State.LooksUp bankEntries
  rw [List.find?_map]
  cases hf : (List.finRange 24).find?
      ((fun x => x.matchesRequest p kind k) ∘ (s.flow.banks.get s.flow.active).get) with
  | none =>
    exact .inr ⟨fun i hi => List.find?_eq_none.mp hf i (List.mem_finRange i)
      ((FlowEntry.matchesRequest_iff _ _ _ _).mpr hi), rfl⟩
  | some i =>
    obtain ⟨hi, before, after, hl, hb⟩ := List.find?_eq_some_iff_append.mp hf
    refine .inl ⟨i, (FlowEntry.matchesRequest_iff _ _ _ _).mp hi, fun j hj hm => ?_, rfl⟩
    have hmem : j ∈ before ++ i :: after := hl ▸ List.mem_finRange j
    have hs : (before ++ i :: after).Pairwise (· < ·) := by rw [← hl]; exact List.pairwise_lt_finRange 24
    rw [List.pairwise_append] at hs
    rcases List.mem_append.mp hmem with hx | hx
    · have := hb j hx
      simp only [Function.comp, (FlowEntry.matchesRequest_iff _ _ _ _).mpr hm] at this
      cases this
    · rcases List.mem_cons.mp hx with rfl | hx
      · exact absurd hj (lt_irrefl _)
      · exact absurd (lt_trans hj (List.rel_of_pairwise_cons hs.2.1 hx)) (lt_irrefl _)

/-- R94 gives one result. -/
theorem State.LooksUp.unique {s : State} {p : Port} {kind : ReqKind} {k : HostPacket} {a b : Action}
    (ha : s.LooksUp p kind k a) (hb : s.LooksUp p kind k b) : a = b := by
  rcases ha with ⟨i, h1, h2, rfl⟩ | ⟨h1, rfl⟩ <;> rcases hb with ⟨j, g1, g2, rfl⟩ | ⟨g1, rfl⟩
  · rcases lt_trichotomy i j with h | rfl | h
    · exact absurd h1 (g2 _ h)
    · rfl
    · exact absurd g1 (h2 _ h)
  · exact absurd h1 (g1 i)
  · exact absurd g1 (h1 j)
  · rfl

theorem State.lookup_eq {s : State} {p : Port} {kind : ReqKind} {k : HostPacket} {a : Action}
    (h : s.LooksUp p kind k a) : s.lookup p kind k = a := (s.lookup_looksUp p kind k).unique h

theorem State.intake_of_passed {s : State} {p : Port} {kind : ReqKind} {k : HostPacket}
    (hm : ¬k.Malformed kind) (hr : ¬s.BeyondLimit k) :
    s.intake p kind k = match s.lookup p kind k with
      | .deny => .refuse .denied none
      | .cls c =>
        if !(s.classes.get c).admitOn then .refuse .classOff (some c)
        else if (s.classes.get c).depthLimit ≤ (s.queue c).length then .refuse .classFull (some c)
        else .take c := by
  unfold State.intake
  refine (if_neg ?_).trans ((if_neg ?_).trans rfl)
  · rw [(HostPacket.wellFormed_iff _ _).mpr hm]
    decide
  · rw [(State.withinLimit_iff _ _).mpr hr]
    decide

/-- Steps 2 to 6: the reason of the first check that fails (R95). -/
theorem State.intake_of_refusedFor {s : State} {p : Port} {kind : ReqKind} {k : HostPacket}
    {reason : RefusalReason} {cls : Option ClassId} (h : s.RefusedFor p kind k reason cls) :
    s.intake p kind k = .refuse reason cls := by
  cases reason with
  | malformed =>
    obtain ⟨h1, rfl⟩ := h
    unfold State.intake
    rw [if_pos (by rw [Bool.not_eq_true', ← Bool.not_eq_true, HostPacket.wellFormed_iff]; exact not_not.mpr h1)]
  | range =>
    obtain ⟨h1, h2, rfl⟩ := h
    unfold State.intake
    rw [if_neg (by rw [(HostPacket.wellFormed_iff _ _).mpr h1]; decide),
      if_pos (by rw [Bool.not_eq_true', ← Bool.not_eq_true, State.withinLimit_iff]; exact not_not.mpr h2)]
  | denied =>
    obtain ⟨h1, h2, h3, rfl⟩ := h
    rw [State.intake_of_passed h1 h2, State.lookup_eq h3]
  | classOff =>
    obtain ⟨h1, h2, c, h3, h4, rfl⟩ := h
    rw [State.intake_of_passed h1 h2, State.lookup_eq h3]
    simp [h4]
  | classFull =>
    obtain ⟨h1, h2, c, h3, h4, h5, rfl⟩ := h
    rw [State.intake_of_passed h1 h2, State.lookup_eq h3]
    simp [h4, h5]

/-- Steps 2 to 6 let a request pass (R95). -/
theorem State.intake_of_admittedTo {s : State} {p : Port} {kind : ReqKind} {k : HostPacket} {c : ClassId}
    (h : s.AdmittedTo p kind k c) : s.intake p kind k = .take c := by
  obtain ⟨h1, h2, h3, h4, h5⟩ := h
  rw [State.intake_of_passed h1 h2, State.lookup_eq h3]
  simp [h4, h5]

/-- What the store and the monitor do with a taken request (R5, R62). -/
theorem State.storeTake_eq (s : State) (e : StoreEntry) :
    s.storeTake e = { s with
      held := s.held ++ [e]
      classes := if s.queue e.cls = [] then s.classes.put e.cls (s.classes.get e.cls).restartClock
        else s.classes } := by
  unfold State.storeTake
  by_cases h : s.queue e.cls = []
  · rw [if_pos (by rw [h]; rfl), if_pos h]
    rfl
  · rw [if_neg (by rwa [List.isEmpty_iff]), if_neg h]

end Sys2Proof.Machine
end

