-- ==== Sys2Proof/Laws/Packets.lean ====
section
/-! SUPPORT. Laws/Packets.lean: bytes and the numbers they spell, and the fields of a number (R83). -/

namespace Sys2Proof.Machine

theorem leBytes_length (k n : Nat) : (leBytes k n).length = k := by
  induction k generalizing n with
  | zero => rfl
  | succ k ih => simp [leBytes, ih]

/-- The bytes of a number spell it again. -/
theorem leNat_leBytes (k n : Nat) : leNat (leBytes k n) = n % 256 ^ k := by
  induction k generalizing n with
  | zero => simp [leBytes, leNat, Nat.mod_one]
  | succ k ih =>
    simp only [leBytes, leNat, ih, BitVec.toNat_ofNat]
    rw [show 256 ^ (k + 1) = 256 * 256 ^ k by rw [Nat.pow_succ, Nat.mul_comm], Nat.mod_mul]

/-- The header of a packet is the number its first bytes were made from. -/
theorem leNat_take_leBytes (k n : Nat) (payload : List Byte) (h : n < 256 ^ k) :
    leNat ((leBytes k n ++ payload).take k) = n := by
  rw [List.take_append_of_le_length (by rw [leBytes_length]),
    List.take_of_length_le (by rw [leBytes_length]), leNat_leBytes, Nat.mod_eq_of_lt h]

/-- What follows the header is the payload. -/
theorem drop_leBytes (k n : Nat) (payload : List Byte) : (leBytes k n ++ payload).drop k = payload := by
  rw [List.drop_append_of_le_length (by rw [leBytes_length]),
    List.drop_of_length_le (by rw [leBytes_length]), List.nil_append]

end Sys2Proof.Machine
end

