-- ==== Sys2Proof/Laws/PerInstr.lean ====
section
/-! SUPPORT. Laws/PerInstr.lean: every command belongs to a row of spec/opcode_table.json, one lemma for each
constructor. -/

namespace Sys2Proof.Laws

/-- The command's row name is one of the table's. -/
def Named.Statement (i : Instr) : Prop := i.rowName ∈ rowNames

theorem Named.arrivalEvent (p : Port) (packet : List Byte) : Named.Statement (.arrivalEvent p packet) :=
  List.mem_of_getElem? (i := 0) rfl

theorem Named.portLinkUp (p : Port) : Named.Statement (.portLinkUp p) :=
  List.mem_of_getElem? (i := 1) rfl

theorem Named.portLinkLost (p : Port) : Named.Statement (.portLinkLost p) :=
  List.mem_of_getElem? (i := 2) rfl

theorem Named.upstreamSendBegin (p : Port) : Named.Statement (.upstreamSendBegin p) :=
  List.mem_of_getElem? (i := 3) rfl

theorem Named.creditSendEnd (p : Port) : Named.Statement (.creditSendEnd p) :=
  List.mem_of_getElem? (i := 4) rfl

theorem Named.responseSendEnd (p : Port) : Named.Statement (.responseSendEnd p) :=
  List.mem_of_getElem? (i := 5) rfl

theorem Named.grantDecision : Named.Statement (.grantDecision) :=
  List.mem_of_getElem? (i := 6) rfl

theorem Named.sendEnd : Named.Statement (.sendEnd) :=
  List.mem_of_getElem? (i := 7) rfl

theorem Named.memoryResponse (packet : List Byte) : Named.Statement (.memoryResponse packet) :=
  List.mem_of_getElem? (i := 8) rfl

theorem Named.memCredit (packet : List Byte) : Named.Statement (.memCredit packet) :=
  List.mem_of_getElem? (i := 9) rfl

theorem Named.memTraining : Named.Statement (.memTraining) :=
  List.mem_of_getElem? (i := 10) rfl

theorem Named.memLinkUp (announced : BitVec 6) : Named.Statement (.memLinkUp announced) :=
  List.mem_of_getElem? (i := 11) rfl

theorem Named.memLinkLost : Named.Statement (.memLinkLost) :=
  List.mem_of_getElem? (i := 12) rfl

theorem Named.entryTimeout (t : DTag) : Named.Statement (.entryTimeout t) :=
  List.mem_of_getElem? (i := 13) rfl

theorem Named.waitClockExpiry (c : ClassId) : Named.Statement (.waitClockExpiry c) :=
  List.mem_of_getElem? (i := 14) rfl

theorem Named.epochBoundary : Named.Statement (.epochBoundary) :=
  List.mem_of_getElem? (i := 15) rfl

theorem Named.midEpochPoint : Named.Statement (.midEpochPoint) :=
  List.mem_of_getElem? (i := 16) rfl

theorem Named.frameEdge : Named.Statement (.frameEdge) :=
  List.mem_of_getElem? (i := 17) rfl

theorem Named.rstAssert : Named.Statement (.rstAssert) :=
  List.mem_of_getElem? (i := 18) rfl

theorem Named.rstRelease (openstrap : Bool) : Named.Statement (.rstRelease openstrap) :=
  List.mem_of_getElem? (i := 19) rfl

theorem Named.csFall : Named.Statement (.csFall) :=
  List.mem_of_getElem? (i := 20) rfl

theorem Named.opcodeByte (b : Byte) : Named.Statement (.opcodeByte b) :=
  List.mem_of_getElem? (i := 21) rfl

theorem Named.csRise : Named.Statement (.csRise) :=
  List.mem_of_getElem? (i := 22) rfl

theorem Named.claimCapture (g : GroupId) : Named.Statement (.claimCapture g) :=
  List.mem_of_getElem? (i := 23) rfl

theorem Named.claimCompletion : Named.Statement (.claimCompletion) :=
  List.mem_of_getElem? (i := 24) rfl

theorem Named.snapshotSlotRead (c : ClassId) : Named.Statement (.snapshotSlotRead c) :=
  List.mem_of_getElem? (i := 25) rfl

theorem Named.wordWrite (w : Word) : Named.Statement (.wordWrite w) :=
  List.mem_of_getElem? (i := 26) rfl

theorem Named.modeWrite (c : ClassId) (w : Word) : Named.Statement (.modeWrite c w) :=
  List.mem_of_getElem? (i := 27) rfl

theorem Named.allowanceWrite (c : ClassId) (w : Word) : Named.Statement (.allowanceWrite c w) :=
  List.mem_of_getElem? (i := 28) rfl

theorem Named.deviceConfigWrite (w : Word) : Named.Statement (.deviceConfigWrite w) :=
  List.mem_of_getElem? (i := 29) rfl

theorem Named.ringWrite (w : Word) : Named.Statement (.ringWrite w) :=
  List.mem_of_getElem? (i := 30) rfl

theorem Named.tenureLimitWrite (c : ClassId) (w : Word) : Named.Statement (.tenureLimitWrite c w) :=
  List.mem_of_getElem? (i := 31) rfl

theorem Named.waitLimitWrite (c : ClassId) (w : Word) : Named.Statement (.waitLimitWrite c w) :=
  List.mem_of_getElem? (i := 32) rfl

theorem Named.flowEntryWrite (b : Bank) (i : EntryIdx) (k : Fin 4) (w : Word) : Named.Statement (.flowEntryWrite b i k w) :=
  List.mem_of_getElem? (i := 33) rfl

theorem Named.defaultClassWrite (p : Port) (w : Word) : Named.Statement (.defaultClassWrite p w) :=
  List.mem_of_getElem? (i := 34) rfl

theorem Named.memLimitWrite (w : Word) : Named.Statement (.memLimitWrite w) :=
  List.mem_of_getElem? (i := 35) rfl

theorem Named.admitWrite (c : ClassId) (w : Word) : Named.Statement (.admitWrite c w) :=
  List.mem_of_getElem? (i := 36) rfl

theorem Named.depthLimitWrite (c : ClassId) (w : Word) : Named.Statement (.depthLimitWrite c w) :=
  List.mem_of_getElem? (i := 37) rfl

theorem Named.creditLimitWrite (p : Port) (w : Word) : Named.Statement (.creditLimitWrite p w) :=
  List.mem_of_getElem? (i := 38) rfl

theorem Named.timeoutWrite (w : Word) : Named.Statement (.timeoutWrite w) :=
  List.mem_of_getElem? (i := 39) rfl

theorem Named.quarantineLevelWrite (w : Word) : Named.Statement (.quarantineLevelWrite w) :=
  List.mem_of_getElem? (i := 40) rfl

theorem Named.enableWrite (g : GroupId) (w : Word) : Named.Statement (.enableWrite g w) :=
  List.mem_of_getElem? (i := 41) rfl

theorem Named.counterWrite (n : CounterId) (w : Word) : Named.Statement (.counterWrite n w) :=
  List.mem_of_getElem? (i := 42) rfl

theorem Named.openPort (arg : Byte) : Named.Statement (.openPort arg) :=
  List.mem_of_getElem? (i := 43) rfl

theorem Named.closePort (arg : Byte) : Named.Statement (.closePort arg) :=
  List.mem_of_getElem? (i := 44) rfl

theorem Named.resetPort (arg : Byte) : Named.Statement (.resetPort arg) :=
  List.mem_of_getElem? (i := 45) rfl

theorem Named.resetDownstream : Named.Statement (.resetDownstream) :=
  List.mem_of_getElem? (i := 46) rfl

theorem Named.purgeClass (arg : Byte) : Named.Statement (.purgeClass arg) :=
  List.mem_of_getElem? (i := 47) rfl

theorem Named.reloadClass (arg : Byte) : Named.Statement (.reloadClass arg) :=
  List.mem_of_getElem? (i := 48) rfl

theorem Named.setLowest (arg : Byte) : Named.Statement (.setLowest arg) :=
  List.mem_of_getElem? (i := 49) rfl

theorem Named.swapBanks : Named.Statement (.swapBanks) :=
  List.mem_of_getElem? (i := 50) rfl

theorem Named.snapshot (classes : Byte) : Named.Statement (.snapshot classes) :=
  List.mem_of_getElem? (i := 51) rfl

theorem Named.trafficReset : Named.Statement (.trafficReset) :=
  List.mem_of_getElem? (i := 52) rfl

theorem Named.lastAddressBit (a : Addr) : Named.Statement (.lastAddressBit a) :=
  List.mem_of_getElem? (i := 53) rfl

end Sys2Proof.Laws
end

