-- ==== Sys2Proof/Laws/Read.lean ====
section
/-! SUPPORT. Laws/Read.lean: which words of a READ frame end in an event of the table, and what the frame does where
they do not (R149, R156, R160). -/

namespace Sys2Proof.Machine

/-! ## What SDO carries, phase by phase -/

@[simp] theorem State.sdo_released (s : State) (n : Nat) (h : s.pins.csLow = false ∨ s.pins.rstLow = true) :
    s.sdo n = none := by
  rcases h with h | h <;> simp [State.sdo, State.awake, h]

section sdo
variable (s : State) (n : Nat) (hcs : s.pins.csLow = true) (hrst : s.pins.rstLow = false)
include hcs hrst

@[simp] theorem State.sdo_opcode (h : s.mgmt.phase = .opcode) : s.sdo n = some (s.mgmt.statusByte.getMsbD n) := by
  simp [State.sdo, State.awake, hcs, hrst, h]

@[simp] theorem State.sdo_reading (h : s.mgmt.phase = .reading) : s.sdo n = some (s.mgmt.readWord.getMsbD n) := by
  simp [State.sdo, State.awake, hcs, hrst, h]

@[simp] theorem State.sdo_zero (h : s.mgmt.phase = .writing ∨ s.mgmt.phase = .void) : s.sdo n = some false := by
  rcases h with h | h <;> simp [State.sdo, State.awake, hcs, hrst, h]

end sdo

/-! ## Words of a READ frame -/

/-- The last word of a slot to complete, in the words of the statements (R156). -/
theorem lastOfSlot_iff (start : Addr) (c : ClassId) (a : Addr) : LastOfSlot start c a ↔ a = slotLast start c := by
  have slot : ∀ k : Fin 4, (MgmtWord.slot c k).addr.toNat = 0x0700 + 4 * c.val + k.val := fun k =>
    MgmtWord.addr_toNat _
  have h1 := slot 1
  have h2 := slot 2
  have h3 := slot 3
  replace h1 : _ = 0x0701 + 4 * c.val := h1.trans (by simp; omega)
  replace h2 : _ = 0x0702 + 4 * c.val := h2.trans (by simp; omega)
  replace h3 : _ = 0x0703 + 4 * c.val := h3.trans (by simp; omega)
  unfold LastOfSlot slotLast
  simp only [BitVec.toNat_inj.symm, h1, h2, h3]
  split
  · next h =>
    rw [if_pos (by omega), BitVec.toNat_sub]
    have := start.isLt
    have : (1 : BitVec 16).toNat = 1 := rfl
    omega
  · next h =>
    rw [if_neg (by omega), h3]

/-- The word before a claim word, in the words of the statements (R160). -/
theorem beforeClaim_iff (g : GroupId) (a : Addr) : BeforeClaim g a ↔ a = beforeClaim g := by
  have h : (MgmtWord.claim g).addr.toNat = 0x0900 + 4 * g.val := MgmtWord.addr_toNat _
  unfold BeforeClaim beforeClaim
  rw [← BitVec.toNat_inj, BitVec.toNat_sub, h]
  have := a.isLt
  have : (1 : BitVec 16).toNat = 1 := rfl
  omega

theorem mem_eventWords (s : State) (a : Addr) : a ∈ eventWords s.mgmt.readStart ↔ s.EventWord a := by
  simp only [eventWords, State.EventWord, List.mem_append, List.mem_map, List.mem_finRange, true_and, lastOfSlot_iff,
    beforeClaim_iff, eq_comm]

/-- An event word comes next exactly where the statements say so. -/
theorem State.comesNext_iff (s : State) {a : Addr} (h : s.EventWord a) :
    s.comesNext a = true ↔ s.NextEventWord a := by
  simp only [State.comesNext, State.NextEventWord, h, true_and, List.all_eq_true, decide_eq_true_eq, BitVec.le_def,
    mem_eventWords]

/-- No word but those of the cause groups is a claim word. -/
theorem groupless_ne_claim (g : GroupId) :
    (∀ n, deviceWordAt n ≠ some (.claim g)) ∧ (∀ p n, portWordAt p n ≠ some (.claim g))
      ∧ (∀ c n, classWordAt c n ≠ some (.claim g)) ∧ (∀ c n, classCounterAt c n ≠ some (.claim g))
      ∧ (∀ p n, portCounterAt p n ≠ some (.claim g)) ∧ ∀ n, memCounterAt n ≠ some (.claim g) := by
  refine ⟨fun n => ?_, fun p n => ?_, fun c n => ?_, fun c n => ?_, fun p n => ?_, fun n => ?_⟩
  · unfold deviceWordAt; split <;> simp
  · unfold portWordAt; split <;> simp
  · unfold classWordAt; split <;> simp
  · unfold classCounterAt; split <;> simp
  · unfold portCounterAt; split <;> simp
  · unfold memCounterAt; split <;> simp

/-- A claim word stands at its own address (R169). -/
theorem decodeAddr_claim {a : Addr} {g : GroupId} (h : decodeAddr a = some (.claim g)) :
    a = (MgmtWord.claim g).addr := by
  have claim : ∀ n, n < 0x0938 → ¬n < 0x0900 →
      groupWordAt (Fin.ofNat 14 ((n - 0x0900) / 4)) (n % 4) = some (.claim g) → n = 0x0900 + 4 * g.val := by
    intro n h1 h2 hn
    have h3 := Nat.mod_lt n (show 0 < 4 by decide)
    generalize hk : n % 4 = k at *
    match k, h3 with
    | 0, _ =>
      simp only [groupWordAt, Option.some.injEq, MgmtWord.claim.injEq] at hn
      rw [← hn]
      simp only [Fin.ofNat]
      omega
    | 1, _ => cases hn
    | 2, _ => cases hn
    | 3, _ => cases hn
  have ite : ∀ {c : Prop} [Decidable c] {x y : Option MgmtWord} {P : Prop},
      (c → x = some (.claim g) → P) → (¬c → y = some (.claim g) → P) →
        (if c then x else y) = some (.claim g) → P := by
    intro c _ x y P hx hy he
    by_cases hc : c
    · exact hx hc (by rwa [if_pos hc] at he)
    · exact hy hc (by rwa [if_neg hc] at he)
  obtain ⟨device, port, cls, classCounter, portCounter, memCounter⟩ := groupless_ne_claim g
  rw [← BitVec.toNat_inj, MgmtWord.addr_toNat]
  unfold decodeAddr wordAt at h
  generalize a.toNat = n at *
  revert h
  exact ite (fun _ h => absurd h (device _)) fun _ => ite (fun _ h => absurd h (port _ _)) fun _ =>
    ite (fun _ h => nomatch h) fun _ => ite (fun _ h => absurd h (cls _ _)) fun _ =>
    ite (fun _ h => nomatch h) fun _ => ite (fun _ h => nomatch h) fun _ => ite (fun _ h => nomatch h) fun _ =>
    ite (fun _ h => nomatch h) fun _ => ite (fun _ h => nomatch h) fun _ => ite (fun _ h => nomatch h) fun _ =>
    ite (fun _ h => nomatch h) fun _ => ite (fun _ h => nomatch h) fun _ => ite (fun _ h => nomatch h) fun _ =>
    ite (fun _ h => absurd h (classCounter _ _)) fun _ => ite (fun _ h => absurd h (portCounter _ _)) fun _ =>
    ite (fun _ h => absurd h (memCounter _)) fun _ => ite (fun _ h => nomatch h) fun h1 =>
    ite (fun h2 h => claim n h2 h1 h) fun _ => ite (fun _ h => nomatch h) fun _ h => nomatch h

/-- The word after the last word of a slot, and the word after any word that is before no claim word, is no claim
word. -/
theorem not_claim_of_not_before {a : Addr} (h : ∀ g, ¬BeforeClaim g a) :
    ∀ g, decodeAddr (a + 1) ≠ some (.claim g) := by
  intro g hg
  refine h g ((beforeClaim_iff g a).mpr ?_)
  unfold beforeClaim
  rw [← decodeAddr_claim hg]
  simp

/-- The last word of a slot to complete is a word of that slot. -/
theorem LastOfSlot.range {start : Addr} {c : ClassId} {a : Addr} (h : LastOfSlot start c a) :
    0x0700 + 4 * c.val ≤ a.toNat ∧ a.toNat ≤ 0x0703 + 4 * c.val := by
  unfold LastOfSlot at h
  split at h <;> omega

/-- The event at the end of the word in progress, in the words of the statements. -/
theorem State.wordEndEvent_iff (s : State) (i : Instr) : s.wordEndEvent = some i ↔ s.WordEndsWith i := by
  unfold State.wordEndEvent State.WordEndsWith
  cases hc : s.mgmt.claiming with
  | some g => simp [eq_comm]
  | none =>
    simp only [ne_eq, not_true_eq_false, and_false, false_or, true_and]
    cases hs : (List.finRange 8).find? fun c => slotLast s.mgmt.readStart c = s.mgmt.address with
    | some c =>
      have hl : LastOfSlot s.mgmt.readStart c s.mgmt.address :=
        (lastOfSlot_iff ..).mpr (by simpa [eq_comm] using List.find?_some hs)
      have hr := hl.range
      constructor
      · rintro ⟨⟩
        exact .inl ⟨c, rfl, hl⟩
      · rintro (⟨d, rfl, hd⟩ | ⟨g, rfl, hg⟩)
        · have := hd.range
          rw [show d = c from Fin.ext (by omega)]
        · have := c.isLt
          unfold BeforeClaim at hg
          omega
    | none =>
      simp only [List.find?_eq_none, List.mem_finRange, decide_eq_true_eq, forall_const] at hs
      have hno : ¬∃ c, i = .snapshotSlotRead c ∧ LastOfSlot s.mgmt.readStart c s.mgmt.address :=
        fun ⟨c, _, hl⟩ => hs c ((lastOfSlot_iff ..).mp hl).symm
      simp only [hno, false_or]
      cases hg : (List.finRange 14).find? fun g => beforeClaim g = s.mgmt.address with
      | some g =>
        have hb : BeforeClaim g s.mgmt.address :=
          (beforeClaim_iff ..).mpr (by simpa [eq_comm] using List.find?_some hg)
        constructor
        · rintro ⟨⟩
          exact ⟨g, rfl, hb⟩
        · rintro ⟨g', rfl, hb'⟩
          unfold BeforeClaim at hb hb'
          rw [show g' = g from Fin.ext (by omega)]
          rfl
      | none =>
        simp only [List.find?_eq_none, List.mem_finRange, decide_eq_true_eq, forall_const] at hg
        simp only [Option.map_none, reduceCtorEq, false_iff]
        rintro ⟨g, _, hb⟩
        exact hg g ((beforeClaim_iff ..).mp hb).symm

theorem State.wordEndEvent_isNone (s : State) : s.wordEndEvent.isNone = true ↔ ∀ i, ¬s.WordEndsWith i := by
  rw [Option.isNone_iff_eq_none, Option.eq_none_iff_forall_ne_some]
  exact forall_congr' fun i => not_congr (s.wordEndEvent_iff i)

/-- A base tick at which an ordinary word ends: the READ frame reads on by one word (R160). -/
theorem State.readTick_on {s : State} (he : s.wordEnds = true) (h : ∀ i, ¬s.WordEndsWith i) :
    s.readTick = { s with mgmt := { s.mgmt with
      address := s.mgmt.address + 1, readWord := s.readAt (s.mgmt.address + 1) } } := by
  unfold State.readTick
  rw [if_pos (by rw [he, s.wordEndEvent_isNone.mpr h]; rfl)]
  refine s.captureAt_plain _ (not_claim_of_not_before fun g hg => ?_)
  by_cases hc : s.mgmt.claiming = none
  · exact h _ (.inr ⟨hc, .inr ⟨g, rfl, hg⟩⟩)
  · exact h _ (.inl ⟨rfl, hc⟩)

/-- Any other base tick leaves a READ frame as it is. -/
theorem State.readTick_off {s : State} (h : s.wordEnds = false ∨ ∃ i, s.WordEndsWith i) : s.readTick = s := by
  unfold State.readTick
  refine if_neg fun hx => ?_
  rw [Bool.and_eq_true, s.wordEndEvent_isNone] at hx
  rcases h with h | ⟨i, h⟩
  · rw [hx.1] at h
    exact absurd h (by decide)
  · exact hx.2 i h

end Sys2Proof.Machine
end

