-- ==== Sys2Proof/WellFormed.lean ====
section
/-! DEFINITION. WellFormed.lean: the checks of a command that its type does not make.  Ports, classes, tags,
groups, counters, bytes and words carry their ranges in their types; what is left is that each of the two
rows for packets from the memory is given a packet of its own kind (R79, R80, R127). -/

namespace Sys2Proof

/-- The packet is a CREDIT message (R80). -/
def isCreditPacket (packet : List Byte) : Bool :=
  (Machine.readMemPacket packet).kind == some .credit

/-- A MEM_CREDIT carries a CREDIT message and a MEMORY_RESPONSE any other packet from the memory.  Every other
command is well-formed with whatever operands its type admits: wrong values of a management word or a
packet are the part's to refuse. -/
def Instr.wellFormed : Instr → Bool
  | .memCredit packet => isCreditPacket packet
  | .memoryResponse packet => !isCreditPacket packet
  | _ => true

end Sys2Proof
end

