-- ==== Sys2Proof/Tests/Slice0.lean ====
section
/-! SUPPORT. Tests/Slice0.lean: the model's own small checks.  The expected values are the manual's: its worked
examples and its tables, named in each comment.  The `test_witness_` theorems show, for each statement of
Certificates/Slice0/Obligations.lean that has hypotheses, a state and operands that meet them. -/

namespace Sys2Proof.Tests

open Sys2Proof Sys2Proof.Machine

/-! ## Small states -/

/-- The next state of an outcome; the second argument where there is none. -/
def nextOf (o : Host.Outcome State Fault Refusal) (s : State) : State :=
  match o with
  | .next t => t
  | _ => s

/-- One command. -/
def after (i : Instr) (s : State) : State := nextOf (exec i s) s

/-- The part after power-on, in a WRITE frame that stands at address `a`. -/
def writing (a : Addr) : State :=
  { State.reset with
    pins := { State.reset.pins with csLow := true }
    mgmt := { State.reset.mgmt with phase := .writing, kind := some .write, address := a } }

/-- The part after power-on, in a READ frame that began at address `start` and stands at address `a`. -/
def readingFrom (start a : Addr) : State :=
  { State.reset with
    pins := { State.reset.pins with csLow := true }
    mgmt := { State.reset.mgmt with phase := .reading, kind := some .read, address := a, readStart := start } }

/-- The part after power-on, in a READ frame that began at address 0 and stands at address `a`. -/
def reading (a : Addr) : State := readingFrom 0 a

/-- The part held in reset. -/
def inReset : State := after .rstAssert State.reset

/-- `s` with class `c` changed. -/
def withC (s : State) (c : ClassId) (f : ClassRec → ClassRec) : State := s.withClass c (f (s.classes.get c))

/-- `s` with port `p` changed. -/
def withP (s : State) (p : Port) (f : PortRec → PortRec) : State := s.withPort p (f (s.ports.get p))

/-- A HELD READ of Length 1. -/
def entry (p : Port) (tag : HostTag) (stream : Stream) (c : ClassId) : StoreEntry where
  port := p
  hostTag := tag
  stream := stream
  kind := .read
  unitAddr := 0
  length := 1
  data := []
  cls := c

/-- An in-flight record. -/
def record (p : Port) (tag : HostTag) (kind : ReqKind) (length : Nat) : FlightRecord where
  port := p
  hostTag := tag
  kind := kind
  length := length
  cls := 0

/-- An OPEN port with a link: credit limit 32 and the tags given outstanding, `store` of them with an entry. -/
def openPort (tags : List HostTag) (store : Nat) : PortRec :=
  { PortRec.powerOn true with
    state := .opened
    linkUp := true
    outstanding := tags
    hostCredits := 32 - store }

/-- A running part.  C2 and C4 have a READY head, C1 a head that is BLOCKED behind C2's, in the stream order of
(U0, 3); C4 is in HOLD mode with no budget and is escape-pending; C6 holds the tenure.  U0 and U1 are OPEN, U2 is
CLOSING with its last response being sent, U3 is WAITING.  Tag 0 is IN_FLIGHT with its timeout due, 1 is ORPHAN, 2 is
LATE. -/
def demo : State :=
  { State.powerOn true with
    held := [entry 0 1 3 2, entry 0 2 3 1, entry 1 1 0 4]
    ports := .build fun p => match p with
      | 0 => openPort [1, 2, 3] 2
      | 1 => openPort [1] 1
      | 2 => { openPort [5] 0 with
          state := .closing, hostCredits := 3, queue := [⟨5, .done⟩], upTx := .response }
      | 3 => PortRec.powerOn true
    classes := .build fun c => if c = 4 then
        { ClassRec.powerOn 4 with
          mode := .hold, writtenWait := 10, activeWait := 10, clock := 10, strikes := 2 }
      else ClassRec.powerOn c
    escapeList := [4]
    arb := { Arbiter.powerOn with mode := .rotate, holder := some 6, count := 1 }
    mem := { MemPort.powerOn with
      link := .up, announced := 4, credits := 2
      table := .build fun t => if t = 0 then .inFlight (record 0 3 .write 1) (some 0)
        else if t = 1 then .orphan (record 3 9 .read 1) (some 65535)
        else if t = 2 then .late (record 0 4 .read 1) else .free }
    mgmt := { MgmtLink.powerOn with lastReject := some (0x0232, .badAddress) }
    pins := { (State.powerOn true).pins with csLow := false } }

/-- `demo` with C4's clock RUNNING at `clock`, of a limit of 10, with `strikes`. -/
def running (clock : Nat) (strikes : Fin 3) : State :=
  { withC demo 4 fun k => { k with clock := clock, strikes := strikes } with escapeList := [] }

/-- `s` in a WRITE frame that stands at the COMMAND word. -/
def commanding (s : State) : State :=
  { s with
    pins := { s.pins with csLow := true }
    mgmt := { s.mgmt with phase := .writing, kind := some .write, address := 8 } }

theorem writing_at (a : Addr) : (writing a).WritingAt a := ⟨rfl, rfl, rfl⟩

theorem commanding_at (s : State) (h : s.pins.rstLow = false) : (commanding s).WritingAt 8 := ⟨h, rfl, rfl⟩

/-! ## The checks of WellFormed -/

/-- A MEM_CREDIT with a DONE packet is refused; R83: kind 0x9, tag 0, Length 1 is the header 0x00000409. -/
theorem test_wellFormed_refuses_done_as_credit :
    (Instr.memCredit [0x09, 0x04, 0x00, 0x00]).wellFormed = false := by decide

/-- A MEMORY_RESPONSE with a CREDIT message is refused; R83: kind 0x4, Count 1 is the header 0x00000014. -/
theorem test_wellFormed_refuses_credit_as_response :
    (Instr.memoryResponse [0x14, 0x00, 0x00, 0x00]).wellFormed = false := by decide

theorem test_wellFormed_takes_the_others :
    (Instr.memCredit [0x14, 0x00, 0x00, 0x00]).wellFormed = true
    ∧ (Instr.memoryResponse [0x09, 0x04, 0x00, 0x00]).wellFormed = true := by decide

/-- No row of the opcode table gives bits. -/
theorem test_decodeTableWord_spells_none : decodeTableWord 32 0x0000000A = none := rfl

/-! ## Packets and words, written out bit by bit -/

/-- R83, packet p1 of section 5.8: a READ (0x1) of tag 5 (bits 8 to 4), stream 1 (bits 12 to 9), Length 2 (bits 16 to
13), at unit address 7. -/
theorem test_host_header_bits :
    readHostPacket [0x51, 0x42, 0x00, 0x00, 0x07, 0x00, 0x00, 0x00] =
      { wholeHeader := true, kind := some .read, hostTag := 5, stream := 1, length := 2, unitAddr := 7
        payloadBytes := 0, payload := [] } := by decide

/-- R83, the packet on D of section 5.8: READ, downstream tag 0, stream 1 (bits 13 to 10), Length 2 (bits 17 to 14),
origin port 2 (bits 19 and 18), host tag 5 (bits 24 to 20). -/
theorem test_downstream_header_bits :
    DPacket.bytes ⟨0, { entry 2 5 1 0 with length := 2 }⟩ =
      [0x01, 0x84, 0x58, 0x00, 0x00, 0x00, 0x00, 0x00] := by decide

/-- R83: a response from the memory, DATA (0x8), tag 63 (bits 9 to 4), Length 8 (bits 13 to 10). -/
theorem test_memory_header_bits :
    (readMemPacket [0xF8, 0x23, 0x00, 0x00]).kind = some .data ∧ (readMemPacket [0xF8, 0x23, 0x00, 0x00]).tag = 63
    ∧ (readMemPacket [0xF8, 0x23, 0x00, 0x00]).length = 8 := by decide

/-- R83: REFUSED (0xA), host tag 6 (bits 8 to 4), reason MALFORMED (0x1, bits 12 to 9), Length 0. -/
theorem test_response_header_bits :
    Response.bytes ⟨6, .refused .malformed⟩ = [0x6A, 0x02, 0x00, 0x00] := by decide

/-- R76: a CREDIT message with Count 64 carries 0x40 in bits 10 to 4. -/
theorem test_credit_message_of_64 : hostCreditBytes 64 = [0x04, 0x04, 0x00, 0x00] := by decide

/-- R169: addresses of the address table. -/
theorem test_addresses :
    decodeAddr 0x0232 = some (.budget 3) ∧ decodeAddr 0x0235 = some (.tenureLimit 3)
    ∧ decodeAddr 0x0507 = some (.flowEntry 1 1 3) ∧ decodeAddr 0x0930 = some (.claim 12)
    ∧ decodeAddr 0x0008 = some .command ∧ decodeAddr 0x000A = none := by decide

/-! ## One command each -/

/-- Section 2.10.2: RELOAD_CLASS with A = 12 and B = -2 gives 10. -/
theorem test_reload_collects_debt :
    ((after (.reloadClass 6) (withC (writing 8) 6 fun k =>
      { k with mode := .hold, allowance := 12, budget := -2 })).classes.get 6).budget = 10 := by decide

/-- Section 2.10.1: the mode write HALVED with A = 11 gives 6. -/
theorem test_halved_entry :
    ((after (.modeWrite 3 3) (withC (writing 0x0230) 3 fun k => { k with allowance := 11 })).classes.get
      3).budget = 6 := by decide

/-- Section 2.10.1: the mid-epoch point raises B from -6 to -1, with A = 11. -/
theorem test_mid_epoch_adds :
    ((after .midEpochPoint (withC { State.reset with epoch := { EpochTimer.powerOn with time := 511 } } 3 fun k =>
      { k with mode := .halved, allowance := 11, budget := -6 })).classes.get 3).budget = -1 := by decide

/-- Section 2.10.1: the boundary then gives 5. -/
theorem test_boundary_carries_debt :
    ((after .epochBoundary (withC { State.reset with epoch := { EpochTimer.powerOn with time := 1023 } } 3 fun k =>
      { k with mode := .halved, allowance := 11, budget := -1 })).classes.get 3).budget = 5 := by decide

/-- Section 4.9: the first expiry comes when the clock has reached 300, and not at 299 or while the link is DOWN. -/
theorem test_expiry_at_the_limit :
    let at' := fun n l => withC { State.powerOn true with
      held := [entry 0 1 3 5], mem := { MemPort.powerOn with link := l } } 5 fun k =>
      { k with writtenWait := 300, activeWait := 300, clock := n }
    ((after (.waitClockExpiry 5) (at' 300 .up)).classes.get 5).strikes = 1
    ∧ ((after (.waitClockExpiry 5) (at' 299 .up)).classes.get 5).strikes = 0
    ∧ ((after (.waitClockExpiry 5) (at' 300 .down)).classes.get 5).strikes = 0 := by decide

/-- Section 4.9: 50 of the 300 are kept by a link loss; a clock whose expiry is due is PAUSED one tick short (R68). -/
theorem test_link_loss_pauses :
    let at' := fun n => withC { State.powerOn true with
      held := [entry 0 1 3 5], mem := { MemPort.powerOn with link := .up } } 5 fun k =>
      { k with writtenWait := 300, activeWait := 300, clock := n }
    ((after .memLinkLost (at' 50)).classes.get 5).clock = 50
    ∧ ((after .memLinkLost (at' 300)).classes.get 5).clock = 299 := by decide

/-- R156: a frame that began at word 2 of slot 0 and came round frees it with word 1, one that began before it with
word 3. -/
theorem test_slot_last_word : slotLast 0x0702 0 = 0x0701 ∧ slotLast 0x06FF 0 = 0x0703 ∧ slotLast 0x0700 0 = 0x0703 := by
  decide

/-- Section 3.9: SET_LOWEST C0 turns C0 C3 C4 C5 C6 C7 C2 C1 to C3 C4 C5 C6 C7 C2 C1 C0. -/
theorem test_set_lowest_turns :
    (after (.setLowest 0) { writing 8 with
      arb := { Arbiter.powerOn with ring := [0, 3, 4, 5, 6, 7, 2, 1] } }).arb.ring =
      [3, 4, 5, 6, 7, 2, 1, 0] := by decide

/-- Section 3.9, the escape that ends C2's tenure: C2 goes to position 7 and no class holds the tenure. -/
theorem test_escape_ends_tenure :
    Arbiter.afterGrant ⟨[3, 4, 5, 6, 7, 2, 1, 0], .rotate, some 2, 2⟩ 4 .escape 4 =
      ⟨[3, 4, 5, 6, 7, 1, 0, 2], .rotate, none, 0⟩ := by decide

/-- Section 10.8: the word at BUDGET of C3 makes LAST_REJECT 0x00010232. -/
theorem test_budget_is_read_only : (after (.wordWrite 0) (writing 0x0232)).readAt 0x0009 = 0x00010232 := by decide

/-- Section 10.8: with BAD_ADDRESS as the result and REJECT set and enabled, the next status byte is 0x55. -/
theorem test_status_byte :
    (after .csFall { State.reset with
      groups := State.reset.groups.put 13 { flags := 4, enables := 4, claimed := 0 }
      mgmt := { State.reset.mgmt with result := some .badAddress } }).mgmt.statusByte = 0x55 := by decide

/-- Section 8.11: CREDIT with Count 3 on 2 credits under an announcement of 4 leaves 4 and raises CREDIT_FAULT. -/
theorem test_credit_clamps :
    (after (.memCredit [0x34, 0x00, 0x00, 0x00]) demo).mem.credits = 4
    ∧ (after (.memCredit [0x34, 0x00, 0x00, 0x00]) demo).causeSet (.down .creditFault) = true := by decide

/-- Section 9.7: the claim clears only what it shows; a cause raised again during the shift survives. -/
theorem test_claim_keeps_a_cause_raised_again :
    ((after .claimCompletion { reading 0x0930 with
      groups := State.reset.groups.put 12 (({ flags := 5, enables := 0, claimed := 5 } : GroupRec).raise 1)
      mgmt := { (reading 0x0930).mgmt with claiming := some 12 } }).groups.get 12).flags = 1 := by decide

/-- Section 6.12, request k: a class at its depth limit refuses CLASS_FULL and counts the class refusal. -/
theorem test_class_full :
    let s := after (.arrivalEvent 1 (hostRequestBytes .read 9 0 1 0 []))
      { withC demo 0 (fun k => { k with depthLimit := 1 }) with held := [entry 0 1 3 0] }
    ((s.ports.get 1).queue = [⟨9, .refused .classFull⟩]) ∧ (s.classes.get 0).classRefusals = 1
      ∧ s.causeSet (.cls 0 .full) = true := by decide

/-! ## Witnesses: configuration words, with each range at its ends -/

theorem test_witness_StepRunsFront :
    ({ demo with pending := [.swapBanks, .csRise] } : State).pending = Instr.swapBanks :: [.csRise] := rfl

theorem test_witness_ResetLine :
    inReset.pins.rstLow = true ∧ Instr.swapBanks ≠ .rstAssert ∧ (∀ b, Instr.swapBanks ≠ .rstRelease b)
    ∧ Instr.swapBanks ≠ .csFall ∧ Instr.swapBanks ≠ .csRise := by decide

/-- A tick before each kind of event, and one that brings none. -/
theorem test_witness_TickMovesTimers :
    demo.pending = [] ∧ demo.pins.rstLow = false
    ∧ (2 ^ demo.epoch.activeExp ≤ 1023 + 1 ∧ 511 + 1 = 2 ^ (demo.epoch.activeExp - 1))
    ∧ (demo.mem.table.get 0).remaining = some 0 ∧ (demo.mem.table.get 1).remaining = some 65535
    ∧ (running 9 0).Runs 4 ∧ ((running 9 0).classes.get 4).activeWait ≤ ((running 9 0).classes.get 4).clock + 1
    ∧ (reading 0x0703).mgmt.phase = .reading ∧ (reading 0x0703).WordEndsWith (.snapshotSlotRead 0)
    ∧ (reading 0x08FF).WordEndsWith (.claimCapture 0)
    ∧ ∀ i, ¬(reading 0x0702).WordEndsWith i := by
  refine ⟨rfl, rfl, by decide, by decide, by decide, by decide, by decide, rfl, ?_, ?_, ?_⟩
  · exact ((reading 0x0703).wordEndEvent_iff _).mp (by decide)
  · exact ((reading 0x08FF).wordEndEvent_iff _).mp (by decide)
  · exact (State.wordEndEvent_isNone _).mp (by decide)

theorem test_witness_BudgetWordWrites :
    (writing 0x0200).WritingAt (BitVec.ofNat 16 (0x0200 + 16 * (0 : ClassId).val))
    ∧ (writing 0x0271).WritingAt (BitVec.ofNat 16 (0x0201 + 16 * (7 : ClassId).val))
    ∧ (0#32).toNat = Mode.unmetered.code ∧ (4#32).toNat = Mode.triggered.code ∧ 5 ≤ (5#32).toNat
    ∧ (65535#32).toNat ≤ 65535 ∧ 65535 < (65536#32).toNat :=
  ⟨writing_at _, writing_at _, by decide⟩

theorem test_witness_NumberWordWrites :
    (writing 0x0203).WritingAt (BitVec.ofNat 16 (0x0203 + 16 * (0 : ClassId).val))
    ∧ (writing 0x0274).WritingAt (BitVec.ofNat 16 (0x0204 + 16 * (7 : ClassId).val))
    ∧ (writing 0x0205).WritingAt (BitVec.ofNat 16 (0x0205 + 16 * (0 : ClassId).val))
    ∧ (writing 0x0132).WritingAt (BitVec.ofNat 16 (0x0102 + 16 * (3 : Port).val))
    ∧ ((7#32).toNat = (7 : ClassId).val ∧ (8#32).toNat = 8 ∧ 8 < (9#32).toNat)
    ∧ (writing 4).WritingAt 0x0004 ∧ (writing 5).WritingAt 0x0005 ∧ (writing 6).WritingAt 0x0006 :=
  ⟨writing_at _, writing_at _, writing_at _, writing_at _, by decide, writing_at _, writing_at _, writing_at _⟩

theorem test_witness_WaitLimitWrites :
    (writing 0x0246).WritingAt (BitVec.ofNat 16 (0x0206 + 16 * (4 : ClassId).val))
    ∧ (65535 < (65536#32).toNat ∧ (0#32).toNat = 0 ∧ 1 ≤ (1#32).toNat ∧ (65535#32).toNat ≤ 65535)
    ∧ ((writing 0x0246).classes.get 4).activeWait = 0
    ∧ ({ writing 0x0246 with classes := demo.classes } : State).WritingAt
      (BitVec.ofNat 16 (0x0206 + 16 * (4 : ClassId).val))
    ∧ (({ writing 0x0246 with classes := demo.classes } : State).classes.get 4).activeWait ≠ 0 :=
  ⟨writing_at _, by decide, by decide, ⟨rfl, rfl, rfl⟩, by decide⟩

theorem test_witness_DeviceConfigWrites :
    (writing 1).WritingAt 0x0001
    ∧ (4 ≤ (0x104#32).toNat % 32 ∧ (0x014#32).toNat % 32 ≤ 20)
    ∧ ((0x003#32).toNat % 32 < 4 ∧ 20 < (0x015#32).toNat % 32) :=
  ⟨writing_at _, by decide, by decide⟩

/-- The power-on ring, and two words that are refused: a class twice, and a class number of 8. -/
theorem test_witness_RingWrites :
    (writing 7).WritingAt 0x0007
    ∧ ((∀ i : Fin 8, (0x76543210#32).toNat / 16 ^ i.val % 16 < 8)
      ∧ ∀ i j : Fin 8, (0x76543210#32).toNat / 16 ^ i.val % 16 = (0x76543210#32).toNat / 16 ^ j.val % 16 → i = j)
    ∧ ¬(∀ i j : Fin 8, (0x76543211#32).toNat / 16 ^ i.val % 16 = (0x76543211#32).toNat / 16 ^ j.val % 16 → i = j)
    ∧ ¬(∀ i : Fin 8, (0x86543210#32).toNat / 16 ^ i.val % 16 < 8) :=
  ⟨writing_at _, by decide, by decide, by decide⟩

theorem test_witness_FlowEntryWrites :
    (writing 0x0400).WritingAt (BitVec.ofNat 16 (0x0400 + 0x0100 * (0 : Bank).val + 4 * (0 : EntryIdx).val + (0 : Fin 4).val))
    ∧ (0 : Bank) = (writing 0x0400).flow.active
    ∧ (writing 0x055C).WritingAt (BitVec.ofNat 16 (0x0400 + 0x0100 * (1 : Bank).val + 4 * (23 : EntryIdx).val + 0))
    ∧ (writing 0x0501).WritingAt (BitVec.ofNat 16 (0x0400 + 0x0100 * (1 : Bank).val + 4 * (0 : EntryIdx).val + 1))
    ∧ (writing 0x0502).WritingAt (BitVec.ofNat 16 (0x0400 + 0x0100 * (1 : Bank).val + 4 * (0 : EntryIdx).val + 2))
    ∧ (writing 0x0503).WritingAt (BitVec.ofNat 16 (0x0400 + 0x0100 * (1 : Bank).val + 4 * (0 : EntryIdx).val + 3))
    ∧ (1 : Bank) ≠ (writing 0x0500).flow.active
    ∧ ((0x0808#32).toNat / 4 % 4 = Operation.write.code ∧ (0x0808#32).toNat / 256 % 16 = Action.deny.code
      ∧ (0x000C#32).toNat / 4 % 4 = 3 ∧ 8 < (0x0900#32).toNat / 256 % 16) :=
  ⟨writing_at _, rfl, writing_at _, writing_at _, writing_at _, writing_at _, by decide, by decide⟩

/-- U0 DISABLED and OPEN; the sum 128 and 129 with the other three limits at 32 each. -/
theorem test_witness_CreditLimitWrites :
    (writing 0x0101).WritingAt (BitVec.ofNat 16 (0x0101 + 16 * (0 : Port).val))
    ∧ ((0#32).toNat = 0 ∧ 64 < (65#32).toNat ∧ 1 ≤ (1#32).toNat ∧ (64#32).toNat ≤ 64)
    ∧ ({ writing 0x0101 with ports := demo.ports } : State).WritingAt (BitVec.ofNat 16 (0x0101 + 16 * (0 : Port).val))
    ∧ (({ writing 0x0101 with ports := demo.ports } : State).ports.get 0).state = .opened
    ∧ ((writing 0x0101).ports.get 0).state = .disabled
    ∧ (32#32).toNat + ((List.finRange 4).map fun q =>
      if q = 0 then 0 else ((writing 0x0101).ports.get q).creditLimit).sum = 128 :=
  ⟨writing_at _, by decide, ⟨rfl, rfl, rfl⟩, by decide, by decide, by decide⟩

theorem test_witness_EnableAndCounterWrites :
    (writing 0x0936).WritingAt (BitVec.ofNat 16 (0x0902 + 4 * (13 : GroupId).val))
    ∧ (writing 0x0800).WritingAt (MgmtWord.counter (.grants 0)).addr
    ∧ (writing 0x0833).WritingAt (MgmtWord.counter .memoryErrors).addr :=
  ⟨writing_at _, writing_at _, writing_at _⟩

/-- Every clause's address, a code of each command at COMMAND, and the unmapped address 0x000A. -/
theorem test_witness_WordWriteIsItsRow :
    (∀ m : MgmtWord, (writing m.addr).WritingAt m.addr)
    ∧ (MgmtWord.identity.readOnly = true ∧ MgmtWord.causeSummary.readOnly = true)
    ∧ (∀ m : MgmtWord, m.addr ≠ 0x000A) ∧ (writing 0x000A).WritingAt 0x000A
    ∧ (writing 8).WritingAt 0x0008
    ∧ (0x0301#32).toNat % 256 = 0x01 ∧ (0x000A#32).toNat % 256 = 0x0A ∧ 0x0A < (0x000B#32).toNat % 256 := by
  refine ⟨fun m => writing_at _, by decide, fun m h => ?_, writing_at _, writing_at _, by decide⟩
  have h10 : m.address = 10 := by rw [← m.addr_toNat, h]; rfl
  cases m with
  | counter n => have := counterAddress_lt n; simp only [MgmtWord.address] at h10; omega
  | _ => simp only [MgmtWord.address] at h10; omega

/-! ## Witnesses: commands of the COMMAND word -/

/-- Every port state, with and without tags and link. -/
theorem test_witness_OpenAndClosePort :
    (commanding demo).WritingAt 0x0008 ∧ (writing 8).WritingAt 0x0008
    ∧ (4 ≤ (4#8).toNat ∧ (3#8).toNat = (3 : Port).val)
    ∧ ((writing 8).ports.get 3).state = .disabled
    ∧ ((commanding demo).ports.get 0).state = .opened ∧ ((commanding demo).ports.get 0).outstanding ≠ []
    ∧ ((commanding demo).ports.get 2).state = .closing ∧ ((commanding demo).ports.get 3).state = .waiting
    ∧ (withP (commanding demo) 3 fun _ => openPort [] 0).WritingAt 0x0008
    ∧ (((withP (commanding demo) 3 fun _ => openPort [] 0).ports.get 3).state = .opened
      ∧ ((withP (commanding demo) 3 fun _ => openPort [] 0).ports.get 3).outstanding = [])
    ∧ (∀ up : Bool, (withP (commanding demo) 3 fun k => { k with state := .closed, linkUp := up }).WritingAt 0x0008
      ∧ ((withP (commanding demo) 3 fun k => { k with state := .closed, linkUp := up }).ports.get 3).state = .closed
      ∧ ((withP (commanding demo) 3 fun k => { k with state := .closed, linkUp := up }).ports.get 3).linkUp = up) :=
  ⟨commanding_at _ rfl, writing_at _, by decide, by decide, by decide, by decide, by decide, by decide,
    ⟨rfl, rfl, rfl⟩, by decide, fun up => ⟨⟨rfl, rfl, rfl⟩, by cases up <;> decide, by cases up <;> decide⟩⟩

theorem test_witness_ResetPortCuts :
    (writing 8).WritingAt 0x0008 ∧ ((writing 8).ports.get 0).state = .disabled
    ∧ (commanding demo).WritingAt 0x0008 ∧ ((commanding demo).ports.get 0).state ≠ .disabled
    ∧ 4 ≤ (4#8).toNat ∧ (0#8).toNat = (0 : Port).val :=
  ⟨writing_at _, by decide, commanding_at _ rfl, by decide, by decide, by decide⟩

theorem test_witness_ResetDownstreamClears : (commanding demo).WritingAt 0x0008 := commanding_at _ rfl

theorem test_witness_PurgeClassEmpties :
    (commanding demo).WritingAt 0x0008 ∧ 8 ≤ (8#8).toNat ∧ (4#8).toNat = (4 : ClassId).val :=
  ⟨commanding_at _ rfl, by decide, by decide⟩

theorem test_witness_ReloadClassRefills :
    let s := withC { commanding demo with epoch := { EpochTimer.powerOn with time := 511 } } 7 fun k =>
      { k with mode := .halved }
    (commanding demo).WritingAt 0x0008 ∧ 8 ≤ (8#8).toNat ∧ (7#8).toNat = (7 : ClassId).val
    ∧ s.WritingAt 0x0008 ∧ (s.classes.get 7).mode = .halved ∧ s.epoch.time + 1 = 2 ^ (s.epoch.activeExp - 1) :=
  ⟨commanding_at _ rfl, by decide, by decide, ⟨rfl, rfl, rfl⟩, by decide, by decide⟩

theorem test_witness_SetLowestRotates :
    (commanding demo).WritingAt 0x0008 ∧ 8 ≤ (8#8).toNat ∧ (2#8).toNat = (2 : ClassId).val
    ∧ (commanding demo).arb.ring = [0, 1] ++ 2 :: [3, 4, 5, 6, 7] ∧ (2 : ClassId) ∉ ([0, 1] : List ClassId) :=
  ⟨commanding_at _ rfl, by decide, by decide, rfl, by decide⟩

theorem test_witness_SwapBanksExchanges :
    (commanding demo).WritingAt 0x0008
    ∧ ∀ i, (((commanding demo).flow.banks.get (after .swapBanks (commanding demo)).flow.active).get i).valid = false :=
  ⟨commanding_at _ rfl, by decide⟩

/-- Slot 7 in a frame that began before it, one that began at word 2 of slot 0 and came round, and slot 7 while
slot 0 comes first. -/
theorem test_witness_SnapshotSlots :
    (commanding demo).WritingAt 0x0008
    ∧ ((reading 0x071C).pins.rstLow = false ∧ (reading 0x071C).mgmt.phase = .reading
      ∧ (reading 0x071C).mgmt.claiming = none)
    ∧ (LastOfSlot 0 7 0x071F ∧ (reading 0x071C).NextEventWord 0x071F)
    ∧ (LastOfSlot 0x0702 0 0x0701 ∧ (readingFrom 0x0702 0x0940).NextEventWord 0x0701)
    ∧ ¬(reading 0x0700).NextEventWord 0x071F := by
  have h7 : LastOfSlot 0 7 0x071F := (lastOfSlot_iff ..).mpr (by decide)
  have h0 : LastOfSlot 0x0702 0 0x0701 := (lastOfSlot_iff ..).mpr (by decide)
  exact ⟨commanding_at _ rfl, by decide, ⟨h7, (State.comesNext_iff _ (.inl ⟨7, h7⟩)).mp (by decide)⟩,
    ⟨h0, (State.comesNext_iff _ (.inl ⟨0, h0⟩)).mp (by decide)⟩,
    fun h => absurd ((State.comesNext_iff _ h.1).mpr h) (by decide)⟩

theorem test_witness_TrafficResetClears : (commanding demo).WritingAt 0x0008 := commanding_at _ rfl

/-! ## Witnesses: the management link -/

/-- A frame that CS_FALL opens, one that stands at its opcode, and frames that read, write and are VOID. -/
theorem test_witness_FramesOpen :
    demo.pins.rstLow = false ∧ demo.pins.csLow = false
    ∧ (after .csFall demo).pins.rstLow = false ∧ (after .csFall demo).mgmt.phase = .opcode
    ∧ ((after .csFall demo).pins.csLow = true)
    ∧ (after (.opcodeByte 0x00) (after .csFall demo)).mgmt.phase = .void
    ∧ (reading 0).mgmt.phase = .reading ∧ (writing 0).mgmt.phase = .writing := by decide

/-- After a READ frame of IDENTITY a VOID frame shifts out 0 bits, and so does a WRITE frame (R158, R161); the READ
frame shifts IDENTITY out from its bit 31 on, bit 24 being its first 1 (R160, R167). -/
theorem test_sdo :
    let read := after (.lastAddressBit 0) (after (.opcodeByte 0x61) (after .csFall demo))
    let opened := after .csFall (after .csRise read)
    (List.range 8).map read.sdo = (List.replicate 7 (some false)).concat (some true)
    ∧ (List.range 32).all (fun n => (after (.opcodeByte 0x00) opened).sdo n = some false)
    ∧ (List.range 32).all (fun n =>
      (after (.lastAddressBit 0) (after (.opcodeByte 0x62) opened)).sdo n = some false) := by decide

/-- A READ and a WRITE frame at their address; the last claim word is 0x0934. -/
theorem test_witness_LastAddressBitSetsAddress :
    (after (.opcodeByte 0x62) (after .csFall demo)).mgmt.phase = .address
    ∧ (after (.opcodeByte 0x62) (after .csFall demo)).mgmt.kind = some .write
    ∧ (after (.opcodeByte 0x61) (after .csFall demo)).mgmt.phase = .address
    ∧ (after (.opcodeByte 0x61) (after .csFall demo)).mgmt.kind = some .read
    ∧ (after (.opcodeByte 0x61) (after .csFall demo)).pins.rstLow = false
    ∧ (∀ g : GroupId, 0x0935#16 ≠ BitVec.ofNat 16 (0x0900 + 4 * g.val))
    ∧ 0x0934#16 = BitVec.ofNat 16 (0x0900 + 4 * (13 : GroupId).val) := by decide

theorem test_witness_FramesClose :
    (writing 8).pins.rstLow = false ∧ (writing 8).pins.csLow = true := by decide

/-- From the peek word of group 12 the claim word of group 13 comes next; that of group 12 does not. -/
theorem test_witness_ClaimsClearWhatTheyShow :
    ((reading 0x0931).pins.rstLow = false ∧ (reading 0x0931).mgmt.phase = .reading
      ∧ (reading 0x0931).mgmt.claiming = none)
    ∧ (BeforeClaim 13 0x0933 ∧ (reading 0x0931).NextEventWord 0x0933)
    ∧ ¬(reading 0x0931).NextEventWord 0x092F
    ∧ (after (.claimCapture 13) (reading 0x0931)).mgmt.claiming = some 13
    ∧ (after (.claimCapture 13) (reading 0x0931)).mgmt.phase = .reading
    ∧ (after (.claimCapture 13) (reading 0x0931)).mgmt.address =
      BitVec.ofNat 16 (0x0900 + 4 * (13 : GroupId).val) := by
  have h : BeforeClaim 13 0x0933 := (beforeClaim_iff ..).mpr (by decide)
  exact ⟨by decide, ⟨h, (State.comesNext_iff _ (.inr ⟨13, h⟩)).mp (by decide)⟩,
    fun h => absurd ((State.comesNext_iff _ h.1).mpr h) (by decide), by decide⟩

/-! ## Witnesses: host ports -/

/-- The packet of a READ of tag 9 from stream 0, with Length `n`, at unit address `a`. -/
def read9 (n a : Nat) : List Byte := hostRequestBytes .read 9 0 n (BitVec.ofNat 31 a) []

/-- `demo` with C0's intake settings and U1's default as given. -/
def intakeState (admitOn : Bool) (depth : Nat) (default : Action) : State :=
  withP { withC demo 0 (fun k => { k with admitOn := admitOn, depthLimit := depth }) with
    flow := { demo.flow with memLimit := 1 }, held := [entry 0 1 3 0] } 1 fun k =>
    { k with defaultAction := default }

theorem admits_read9 (admitOn : Bool) (depth : Nat) (default : Action) (n a : Nat)
    (h : readHostPacket (read9 n a) = { wholeHeader := true, kind := some .read, hostTag := 9, stream := 0
                                        length := n, unitAddr := BitVec.ofNat 31 a, payloadBytes := 0
                                        payload := [] }) :
    (intakeState admitOn depth default).Admits 1 (readHostPacket (read9 n a)) .read := by
  rw [h]
  exact ⟨(by decide : 0 < 31), rfl, (by decide : (9 : HostTag) ∉ ([1] : List HostTag))⟩

/-- Step 1 fails for a response kind; the five reasons of steps 2 to 6, each at the edge of its check: Length 9, the
first unit beyond 1 MiB, a default of DENY, ADMIT at OFF, a queue at its depth limit. -/
theorem test_witness_ArrivalsTurnedAway :
    demo.pins.rstLow = false ∧ (demo.ports.get 1).linkUp = true
    ∧ (∀ kind, ¬demo.Admits 1 (readHostPacket [0x79, 0, 0, 0, 0, 0, 0, 0]) kind)
    ∧ ((intakeState true 2 (.cls 0)).Admits 1 (readHostPacket (read9 9 0)) .read
      ∧ (intakeState true 2 (.cls 0)).RefusedFor 1 .read (readHostPacket (read9 9 0)) .malformed none)
    ∧ ((intakeState true 2 (.cls 0)).Admits 1 (readHostPacket (read9 1 32768)) .read
      ∧ (intakeState true 2 (.cls 0)).RefusedFor 1 .read (readHostPacket (read9 1 32768)) .range none)
    ∧ ((intakeState true 2 .deny).Admits 1 (readHostPacket (read9 8 32760)) .read
      ∧ (intakeState true 2 .deny).RefusedFor 1 .read (readHostPacket (read9 8 32760)) .denied none)
    ∧ ((intakeState false 2 (.cls 0)).Admits 1 (readHostPacket (read9 8 32760)) .read
      ∧ (intakeState false 2 (.cls 0)).RefusedFor 1 .read (readHostPacket (read9 8 32760)) .classOff (some 0))
    ∧ ((intakeState true 1 (.cls 0)).Admits 1 (readHostPacket (read9 8 32760)) .read
      ∧ (intakeState true 1 (.cls 0)).RefusedFor 1 .read (readHostPacket (read9 8 32760)) .classFull (some 0)) := by
  have wf : ¬(readHostPacket (read9 8 32760)).Malformed .read := by
    rw [← HostPacket.wellFormed_iff]; decide
  have fits (s : State) (h : s.withinLimit (readHostPacket (read9 8 32760)) = true) :
      ¬s.BeyondLimit (readHostPacket (read9 8 32760)) := (State.withinLimit_iff _ _).mp h
  refine ⟨by decide, by decide, fun kind h => by cases kind <;> exact absurd h.2.1 (by decide),
    ⟨admits_read9 _ _ _ _ _ (by decide), ⟨.inr (.inr (.inl (by decide))), rfl⟩⟩,
    ⟨admits_read9 _ _ _ _ _ (by decide), ?_, ?_, rfl⟩,
    ⟨admits_read9 _ _ _ _ _ (by decide), wf, fits _ (by decide), ?_, rfl⟩,
    ⟨admits_read9 _ _ _ _ _ (by decide), wf, fits _ (by decide), 0, ?_, by decide, rfl⟩,
    ⟨admits_read9 _ _ _ _ _ (by decide), wf, fits _ (by decide), 0, ?_, by decide, by decide, rfl⟩⟩
  · rw [← HostPacket.wellFormed_iff]; decide
  · unfold State.BeyondLimit; decide
  · exact (State.lookup_looksUp _ 1 .read _ : State.LooksUp _ 1 .read _ _)
  · exact (State.lookup_looksUp _ 1 .read _ : State.LooksUp _ 1 .read _ _)
  · exact (State.lookup_looksUp _ 1 .read _ : State.LooksUp _ 1 .read _ _)

theorem test_witness_ArrivalsTaken :
    (intakeState true 2 (.cls 0)).pins.rstLow = false ∧ ((intakeState true 2 (.cls 0)).ports.get 1).linkUp = true
    ∧ (intakeState true 2 (.cls 0)).Admits 1 (readHostPacket (read9 8 32760)) .read
    ∧ (intakeState true 2 (.cls 0)).AdmittedTo 1 .read (readHostPacket (read9 8 32760)) 0 := by
  refine ⟨by decide, by decide, admits_read9 _ _ _ _ _ (by decide), ?_, ?_, ?_, by decide, by decide⟩
  · rw [← HostPacket.wellFormed_iff]; decide
  · exact (State.withinLimit_iff _ _).mp (by decide)
  · exact (State.lookup_looksUp _ 1 .read _ : State.LooksUp _ 1 .read _ _)

theorem test_witness_PortLinkEvents :
    demo.pins.rstLow = false ∧ (demo.ports.get 3).linkUp = false ∧ (demo.ports.get 3).state = .waiting
    ∧ ((withP demo 3 fun k => { k with state := .closed }).ports.get 3).linkUp = false
    ∧ ((withP demo 3 fun k => { k with state := .closed }).ports.get 3).state = .closed
    ∧ (demo.ports.get 2).linkUp = true ∧ (demo.ports.get 2).state = .closing := by decide

theorem test_witness_UpstreamTransmitter :
    demo.pins.rstLow = false ∧ (demo.ports.get 0).linkUp = true ∧ (demo.ports.get 0).upTx = .idle
    ∧ 0 < ((withP demo 0 fun k => { k with pendingCredits := 1 }).ports.get 0).pendingCredits
    ∧ ((withP demo 0 fun k => { k with upTx := .credit 1 }).ports.get 0).upTx = .credit 1 := by decide

theorem test_witness_ResponseSendEnds :
    demo.pins.rstLow = false ∧ (demo.ports.get 2).upTx = .response
    ∧ (demo.ports.get 2).queue = [⟨5, .done⟩] ∧ (demo.ports.get 2).state = .closing := by decide

/-! ## Witnesses: the arbiter -/

theorem decisionDue_of {s : State} (h : (s.awake && s.decisionDue) = true) : s.DecisionDue :=
  s.decisionDue_iff.mp h

/-- `demo` with no mark and C2 eligible, and the tenure record given. -/
def tenureState (holder : Option ClassId) (count : Nat) (ring : List ClassId) : State :=
  { demo with escapeList := [], arb := { demo.arb with holder := holder, count := count, ring := ring } }

theorem test_witness_DecisionsChoose :
    (demo.DecisionDue ∧ demo.RingLaw ∧ ∃ x, demo.Escaping x)
    ∧ ((tenureState (some 2) 3 [0, 1, 2, 3, 4, 5, 6, 7]).DecisionDue
      ∧ (tenureState (some 2) 3 [0, 1, 2, 3, 4, 5, 6, 7]).RingLaw
      ∧ ¬(∃ x, (tenureState (some 2) 3 [0, 1, 2, 3, 4, 5, 6, 7]).Escaping x)
      ∧ (tenureState (some 2) 3 [0, 1, 2, 3, 4, 5, 6, 7]).Eligible 2)
    ∧ ((tenureState none 0 [7, 6, 5, 4, 3, 2, 1, 0]).DecisionDue
      ∧ (tenureState none 0 [7, 6, 5, 4, 3, 2, 1, 0]).RingLaw)
    ∧ ¬(tenureState (some 6) 1 [6, 0, 1, 2, 3, 4, 5, 7]).Eligible 6
    ∧ (tenureState (some 6) 1 [6, 0, 1, 2, 3, 4, 5, 7]).DecisionDue := by
  refine ⟨⟨decisionDue_of (by decide), ⟨by decide, by decide⟩, 4, (State.escapeCandidate_iff _ _).mp (by decide)⟩,
    ⟨decisionDue_of (by decide), ⟨by decide, by decide⟩, fun h => h.elim fun _ hx => List.not_mem_nil hx.1,
      (State.eligible_iff _ _).mp (by decide)⟩,
    ⟨decisionDue_of (by decide), ⟨by decide, by decide⟩⟩, ?_, decisionDue_of (by decide)⟩
  rw [← State.eligible_iff]
  decide

/-- With two eligible classes, C4 (made UNMETERED) above the holder C2 on the ring. -/
theorem test_witness_DecisionsChoose_preempted :
    let s := withC (tenureState (some 2) 1 [0, 1, 4, 3, 2, 5, 6, 7]) 4 fun k => { k with mode := .unmetered }
    s.DecisionDue ∧ s.RingLaw ∧ s.Eligible 2 ∧ s.Eligible 4 ∧ 4 ∈ s.arb.ring.takeWhile (· ≠ 2) := by
  refine ⟨decisionDue_of (by decide), ⟨by decide, by decide⟩, ?_, ?_, by decide⟩
  all_goals exact (State.eligible_iff _ _).mp (by decide)

theorem test_witness_GrantsReachEveryBlock :
    (demo.DecisionDue ∧ demo.RingLaw ∧ demo.TenureEndsFirst)
    ∧ (tenureState none 0 [0, 1, 2, 3, 4, 5, 6, 7]).DecisionDue
    ∧ (tenureState none 0 [0, 1, 2, 3, 4, 5, 6, 7]).RingLaw
    ∧ ¬(tenureState none 0 [0, 1, 2, 3, 4, 5, 6, 7]).TenureEndsFirst := by
  refine ⟨⟨decisionDue_of (by decide), ⟨by decide, by decide⟩, 6, rfl, .inl ?_⟩, decisionDue_of (by decide),
    ⟨by decide, by decide⟩, fun h => h.elim fun _ hx => nomatch hx.1⟩
  rw [← State.eligible_iff]
  decide

/-- `demo` while the head of C2 is being sent under tag 3. -/
def sending : State :=
  { demo with
    held := [entry 0 2 3 1, entry 1 1 0 4]
    issuing := some (entry 0 1 3 2)
    mem := { demo.mem with
      dTx := some ⟨3, entry 0 1 3 2⟩
      table := demo.mem.table.put 3 (.inFlight (recordOf (entry 0 1 3 2)) (some 2000)) } }

theorem test_witness_SendEndFreesEntry :
    sending.pins.rstLow = false ∧ sending.issuing = some (entry 0 1 3 2) := by decide

/-! ## Witnesses: the memory port -/

/-- DONE for tag 0 that matches; ERROR and a DONE of the wrong Length for it; responses to ORPHAN 1, LATE 2, FREE
3; a request kind. -/
theorem test_witness_MemoryResponses :
    demo.pins.rstLow = false ∧ demo.mem.link = .up
    ∧ demo.mem.table.get (readMemPacket (memResponseBytes .done 0 1 [])).tag =
      .inFlight (record 0 3 .write 1) (some 0)
    ∧ ((readMemPacket (memResponseBytes .done 0 1 [])).kind = some .done
      ∧ (readMemPacket (memResponseBytes .done 0 1 [])).wholeHeader = true
      ∧ (readMemPacket (memResponseBytes .done 0 1 [])).length = 1
      ∧ (readMemPacket (memResponseBytes .done 0 1 [])).payloadBytes = 0)
    ∧ (readMemPacket (memResponseBytes .error 0 1 [])).kind = some .error
    ∧ (readMemPacket (memResponseBytes .done 0 2 [])).length = 2
    ∧ demo.mem.table.get (readMemPacket (memResponseBytes .done 1 1 [])).tag =
      .orphan (record 3 9 .read 1) (some 65535)
    ∧ demo.mem.table.get (readMemPacket (memResponseBytes .done 2 1 [])).tag = .late (record 0 4 .read 1)
    ∧ demo.mem.table.get (readMemPacket (memResponseBytes .done 63 1 [])).tag = .free
    ∧ (readMemPacket (memResponseBytes .read 0 1 [])).kind = some .read := by decide

/-- A Count of 0, one that reaches N exactly, and one that passes it by 1. -/
theorem test_witness_MemoryCredits :
    demo.pins.rstLow = false ∧ demo.mem.link = .up
    ∧ ((readMemPacket (memCreditBytes 0)).kind = some .credit ∧ (readMemPacket (memCreditBytes 0)).count = 0)
    ∧ ((readMemPacket (memCreditBytes 2)).kind = some .credit
      ∧ demo.mem.credits + (readMemPacket (memCreditBytes 2)).count = demo.mem.announced)
    ∧ (readMemPacket (memCreditBytes 3)).kind = some .credit
    ∧ demo.mem.credits + (readMemPacket (memCreditBytes 3)).count = demo.mem.announced + 1 := by decide

theorem test_witness_MemoryLink :
    State.reset.pins.rstLow = false ∧ State.reset.mem.link = .down ∧ demo.mem.link = .up
    ∧ (after .memTraining State.reset).pins.rstLow = false ∧ (after .memTraining State.reset).mem.link = .training
    ∧ (1 ≤ (1#6).toNat ∧ (32#6).toNat ≤ 32) ∧ (0#6).toNat = 0 ∧ 32 < (33#6).toNat := by decide

/-- `demo` with tag 1 an ORPHAN whose timeout is due. -/
def orphanDue : State :=
  { demo with mem := { demo.mem with table := demo.mem.table.put 1 (.orphan (record 3 9 .read 1) (some 0)) } }

/-- The LATE count of `demo` is 1; a quarantine level of 2 is reached by the next timeout, one of 8 is not.  A remaining
time of 65535 and a LATE entry bring no timeout. -/
theorem test_witness_EntriesTimeOut :
    demo.pins.rstLow = false ∧ demo.mem.table.get 0 = .inFlight (record 0 3 .write 1) (some 0)
    ∧ orphanDue.mem.table.get 1 = .orphan (record 3 9 .read 1) (some 0)
    ∧ (demo.mem.table.get 1).remaining ≠ some 0 ∧ (demo.mem.table.get 2).remaining ≠ some 0
    ∧ (demo.mem.lateCount < 2 ∧ 2 ≤ demo.mem.lateCount + 1)
    ∧ ¬(demo.mem.quarantineLevel ≤ demo.mem.lateCount + 1) := by decide

theorem test_witness_WaitClocksExpire :
    demo.pins.rstLow = false
    ∧ ((running 10 0).Runs 4 ∧ ((running 10 0).classes.get 4).activeWait ≤ ((running 10 0).classes.get 4).clock)
    ∧ ((running 10 0).classes.get 4).strikes = 0
    ∧ ((running 10 1).Runs 4 ∧ ((running 10 1).classes.get 4).activeWait ≤ ((running 10 1).classes.get 4).clock)
    ∧ ((running 10 1).classes.get 4).strikes = 1
    ∧ ¬((running 9 0).classes.get 4).activeWait ≤ ((running 9 0).classes.get 4).clock
    ∧ ¬demo.Runs 4 ∧ ¬(after .memLinkLost (running 10 0)).Runs 4 := by decide

theorem test_witness_RefillEvents :
    let at' := fun n => { demo with epoch := { EpochTimer.powerOn with time := n } : State }
    (∀ n, (at' n).pins.rstLow = false)
    ∧ 2 ^ (at' 1023).epoch.activeExp ≤ (at' 1023).epoch.time + 1
    ∧ (at' 1022).epoch.time + 1 < 2 ^ (at' 1022).epoch.activeExp
    ∧ (at' 511).epoch.time + 1 = 2 ^ ((at' 511).epoch.activeExp - 1)
    ∧ (at' 512).epoch.time + 1 ≠ 2 ^ ((at' 512).epoch.activeExp - 1) := ⟨fun _ => rfl, by decide⟩

/-! ## Witnesses: the laws, at `demo` and a step from it -/

theorem demo_ringLaw : demo.RingLaw := ⟨by decide, by decide⟩

theorem demo_tenureLaw : demo.TenureLaw := by unfold State.TenureLaw; decide

theorem demo_storeLaw : demo.StoreLaw := by
  have hheld : ∀ x ∈ demo.held,
      1 ≤ x.length ∧ x.length ≤ 8 ∧ x.data.length = expectedPayload x.kind x.length := by decide
  have hrecord : ∀ t : DTag, ∀ r ∈ (demo.mem.table.get t).record, 1 ≤ r.length ∧ r.length ≤ 8 := by decide
  exact ⟨fun e he => hheld e he, (by intro e he; cases he), fun t r h => hrecord t r h⟩

theorem demo_budgetLaw : demo.BudgetLaw := by unfold State.BudgetLaw; decide

theorem demo_slotLaw : demo.SlotLaw := by
  intro c v h
  have : ∀ c : ClassId, (demo.classes.get c).slot = none := by decide
  rw [this c] at h
  cases h

theorem demo_monitorLaw : demo.MonitorLaw := by unfold State.MonitorLaw; decide

theorem demo_memoryLaw : demo.MemoryLaw := by
  refine ⟨by decide, fun h => absurd rfl h, rfl, fun t n h => ?_, by decide⟩
  have : ∀ t : DTag, ∀ n ∈ (demo.mem.table.get t).remaining, n ≤ 65535 := by decide
  exact this t n h

theorem demo_answerLaw : demo.AnswerLaw := by unfold State.AnswerLaw; decide

theorem demo_creditLaw : demo.CreditLaw := by
  refine ⟨fun p => ?_, by decide⟩
  match p with
  | 0 => exact ⟨by decide, by decide, by decide, by decide, rfl, by decide⟩
  | 1 => exact ⟨by decide, by decide, by decide, by decide, rfl, by decide⟩
  | 2 => exact ⟨by decide, by decide, by decide, by decide, rfl, rfl, by decide⟩
  | 3 => exact ⟨by decide, by decide, by decide, by decide, rfl, rfl, rfl, by decide⟩

theorem demo_claimLaw : demo.ClaimLaw := by unfold State.ClaimLaw; decide

theorem demo_frameLaw : demo.FrameLaw := ⟨fun _ => rfl, rfl, fun h => absurd rfl h, by decide⟩

theorem demo_resetLaw : demo.ResetLaw := fun h => by cases h

theorem demo_flowLaw : demo.FlowLaw := by unfold State.FlowLaw; decide

theorem demo_settingsLaw : demo.SettingsLaw := by unfold State.SettingsLaw; decide

theorem demo_epochLaw : demo.EpochLaw := by unfold State.EpochLaw; decide

theorem demo_counterLaw : demo.CounterLaw := by
  intro n
  cases n with
  | grants c => revert c; decide
  | grantedUnits c => revert c; decide
  | escapeGrants c => revert c; decide
  | classRefusals c => revert c; decide
  | requestsTaken p => revert p; decide
  | requestsRefused p => revert p; decide
  | protocolFaults p => revert p; decide
  | _ => decide

/-- `demo` with a GRANT_DECISION waiting. -/
def demoDue : State := { demo with pending := [.grantDecision] }

/-- The hypotheses of every law that a step keeps. -/
theorem test_witness_LawsKept :
    (demoDue.RingLaw ∧ demoDue.TenureLaw) ∧ (demoDue.StoreLaw ∧ demoDue.BudgetLaw ∧ demoDue.SlotLaw) ∧ demoDue.MonitorLaw
    ∧ (demoDue.MemoryLaw ∧ demoDue.CreditLaw ∧ demoDue.AnswerLaw)
    ∧ (demoDue.FrameLaw ∧ demoDue.ClaimLaw ∧ demoDue.ResetLaw)
    ∧ (demoDue.FlowLaw ∧ demoDue.SettingsLaw ∧ demoDue.EpochLaw ∧ demoDue.CounterLaw)
    ∧ step demoDue = .next demo.decide :=
  ⟨⟨demo_ringLaw, demo_tenureLaw⟩, ⟨demo_storeLaw, demo_budgetLaw, demo_slotLaw⟩, demo_monitorLaw,
    ⟨demo_memoryLaw, demo_creditLaw, demo_answerLaw⟩, ⟨demo_frameLaw, demo_claimLaw, fun h => by cases h⟩,
    ⟨demo_flowLaw, demo_settingsLaw, demo_epochLaw, demo_counterLaw⟩, rfl⟩

theorem test_witness_StoreAndQueuesBounded : demo.CreditLaw ∧ demo.AnswerLaw := ⟨demo_creditLaw, demo_answerLaw⟩

/-! ## Witnesses: laws of the whole part -/

theorem test_witness_ActiveBankUnchanged :
    Instr.swapBanks ≠ .rstAssert ∧ (∀ b, Instr.swapBanks ≠ .rstRelease b)
    ∧ exec .swapBanks (commanding demo) = .next (after .swapBanks (commanding demo)) :=
  ⟨by decide, by decide, rfl⟩

/-- A claim of the DOWN group that clears LINK_UP (bit 6). -/
theorem test_witness_FlagsClearedByClaimsAlone :
    let s := after (.claimCapture 12) { reading 0x092F with
      groups := State.reset.groups.put 12 { flags := 0x40, enables := 0, claimed := 0 } }
    Instr.claimCompletion ≠ .rstAssert ∧ (∀ b, Instr.claimCompletion ≠ .rstRelease b)
    ∧ exec .claimCompletion s = .next (after .claimCompletion s)
    ∧ (s.groups.get 12).flags.getLsbD 6 = true
    ∧ ((after .claimCompletion s).groups.get 12).flags.getLsbD 6 = false :=
  ⟨by decide, by decide, rfl, by decide, by decide⟩

theorem test_witness_AlertIsCauseSummary :
    (inReset.ResetLaw ∧ inReset.pins.rstLow = true)
    ∧ (demo.ResetLaw ∧ demo.pins.rstLow = false ∧ demo.pins.csLow = false) :=
  ⟨⟨fun _ => rfl, rfl⟩, demo_resetLaw, rfl, rfl⟩

theorem test_witness_ObservationWords :
    (demo.MemoryLaw ∧ demo.CreditLaw ∧ demo.AnswerLaw ∧ demo.StoreLaw ∧ demo.BudgetLaw ∧ demo.SlotLaw ∧ demo.RingLaw
      ∧ demo.TenureLaw ∧ demo.MonitorLaw ∧ demo.EpochLaw ∧ demo.SettingsLaw ∧ demo.CounterLaw)
    ∧ State.reset.mgmt.lastReject = none ∧ demo.mgmt.lastReject = some (0x0232, .badAddress) ∧ ∀ w : MgmtWord, w.addr ≠ 0x000A :=
  ⟨⟨demo_memoryLaw, demo_creditLaw, demo_answerLaw, demo_storeLaw, demo_budgetLaw, demo_slotLaw, demo_ringLaw,
    demo_tenureLaw, demo_monitorLaw, demo_epochLaw, demo_settingsLaw, demo_counterLaw⟩, rfl, rfl,
    test_witness_WordWriteIsItsRow.2.2.1⟩

/-- A slot that SNAPSHOT has filled, read back: its state bit and, of the escape-pending C4, strikes 2 and the mark. -/
theorem test_slot_words :
    let s := after (.snapshot 0x10) (commanding demo)
    s.readAt 0x0712 = 0x80000006 ∧ s.readAt 0x0716 = 0 := by decide

theorem test_witness_OrderOfTakingKept :
    exec .grantDecision demo = .next (after .grantDecision demo)
    ∧ (after .grantDecision demo).held = [entry 0 1 3 2, entry 0 2 3 1] := ⟨rfl, by decide⟩

theorem test_witness_EarliestHeldIsReady :
    demo.held = entry 0 1 3 2 :: [entry 0 2 3 1, entry 1 1 0 4] := rfl

theorem test_witness_AddressMapRoundTrip : decodeAddr 0xFFFF = none ∧ decodeAddr 0x0940 = some .causeSummary := by decide

theorem test_witness_PacketsRoundTrip :
    (15 : Nat) < 16 ∧ (63 : Nat) < 64 ∧ (64 : Nat) ≤ 64 ∧ (entry 0 1 3 2).length < 16
    ∧ (PortRec.powerOn true).upTx = .idle ∧ (demo.ports.get 2).upTx = .response
    ∧ (demo.ports.get 2).queue = ⟨5, .done⟩ :: []
    ∧ ({ PortRec.powerOn true with upTx := .credit 64 } : PortRec).upTx = .credit 64 := by decide

/-! ## Witnesses: two events that meet -/

/-- U3 OPEN with its last response being sent. -/
theorem test_witness_CloseMeetsLastResponse :
    let s := withP (commanding demo) 3 fun _ =>
      { openPort [7] 0 with queue := [⟨7, .aborted⟩], upTx := .response }
    s.WritingAt 0x0008 ∧ (3#8).toNat = (3 : Port).val ∧ (s.ports.get 3).state = .opened
    ∧ (s.ports.get 3).upTx = .response ∧ (s.ports.get 3).queue = [⟨7, .aborted⟩]
    ∧ (s.ports.get 3).outstanding = [7] :=
  ⟨⟨rfl, rfl, rfl⟩, by decide, by decide, by decide, by decide, by decide⟩

/-- `demo` with tag 0 a READ whose timeout is due. -/
def readDue : State :=
  { demo with mem := { demo.mem with table := demo.mem.table.put 0 (.inFlight (record 0 3 .read 1) (some 0)) } }

/-- A DONE that matches a WRITE, a DATA of one unit that matches a READ, an ERROR, a DONE of the wrong Length; and a
response to an ORPHAN. -/
theorem test_witness_ResponseMeetsTimeout :
    let k := fun kind tag n (bytes : List Byte) => readMemPacket (memResponseBytes kind tag n bytes)
    demo.pins.rstLow = false ∧ demo.mem.link = .up
    ∧ (demo.mem.table.get (k .done 0 1 []).tag = .inFlight (record 0 3 .write 1) (some 0)
      ∧ (k .done 0 1 []).kind = some .done ∧ (k .done 0 1 []).wholeHeader = true
      ∧ (k .done 0 1 []).payloadBytes = 0 ∧ (k .done 0 1 []).length = 1)
    ∧ (readDue.mem.table.get (k .data 0 1 (List.replicate 32 0)).tag = .inFlight (record 0 3 .read 1) (some 0)
      ∧ (k .data 0 1 (List.replicate 32 0)).kind = some .data
      ∧ (k .data 0 1 (List.replicate 32 0)).payloadBytes = 32 ∧ (k .data 0 1 (List.replicate 32 0)).length = 1)
    ∧ (k .error 0 1 []).kind = some .error ∧ (k .done 0 2 []).length ≠ 1
    ∧ orphanDue.mem.table.get (k .done 1 1 []).tag = .orphan (record 3 9 .read 1) (some 0) := by decide

end Sys2Proof.Tests
end

/-! # What a command can do

Every command of the table either changes nothing or has one of the effects below.  The two inductive predicates say
this once, with the guards of the meanings, so that a law of every step is proved by one case split over them. -/

namespace Sys2Proof.Machine

/-- What an accepted word of a WRITE frame makes of the state, before the address moves on (R162, R164): the words of
the settings, then the commands of the COMMAND word. -/
inductive Accepted (s : State) : State → Prop
  | mode (c : ClassId) (m : Mode) :
    Accepted s (s.updClass c fun k => { k with mode := m, budget := entryBudget m k.allowance, slot := none })
  | allowance (c : ClassId) (n : Nat) (hn : n ≤ 65535) :
    Accepted s (s.updClass c fun k => { k with allowance := n, budget := min k.budget n })
  | tenureLimit (c : ClassId) (n : Nat) (hn : 1 ≤ n ∧ n ≤ 16) :
    Accepted s (s.updClass c fun k => { k with tenureLimit := n })
  | waitLimit (c : ClassId) (n : Nat) (hn : n ≤ 65535) : Accepted s (s.setWaitLimit c n)
  | admission (c : ClassId) (b : Bool) : Accepted s (s.updClass c fun k => { k with admitOn := b })
  | depthLimit (c : ClassId) (n : Nat) (hn : 1 ≤ n ∧ n ≤ 128) :
    Accepted s (s.updClass c fun k => { k with depthLimit := n })
  | defaultAction (p : Port) (a : Action) : Accepted s (s.updPort p fun k => { k with defaultAction := a })
  | creditLimit (p : Port) (n : Nat) (hn : 1 ≤ n ∧ n ≤ 64) (hp : (s.ports.get p).state.serving = false)
      (hs : n + s.otherLimits p ≤ 128) :
    Accepted s (s.updPort p fun k => { k with creditLimit := n })
  | deviceConfig (n : Nat) (m : ArbMode) (hn : 4 ≤ n ∧ n ≤ 20) :
    Accepted s ((s.updEpoch fun e => { e with writtenExp := n }).updArb fun a => { a with mode := m })
  | ring (w : Word) (r : List ClassId) (hr : ringOfWord w = some r) :
    Accepted s (s.updArb fun a => { a with ring := r })
  | memLimit (n : Nat) (hn : 1 ≤ n ∧ n ≤ 65536) : Accepted s (s.updFlow fun f => { f with memLimit := n })
  | timeout (n : Nat) (hn : n ≤ 65535) : Accepted s (s.updMem fun m => { m with timeout := n })
  | quarantineLevel (n : Nat) (hn : 1 ≤ n ∧ n ≤ 64) :
    Accepted s (s.updMem fun m => { m with quarantineLevel := n })
  | flowEntry (b : Bank) (i : EntryIdx) (e : FlowEntry) (hb : b ≠ s.flow.active) (he : e.consistent = true) :
    Accepted s (s.updFlow (·.putEntry b i e))
  | enables (g : GroupId) (w : Word) :
    Accepted s (s.updGroup g fun k => { k with enables := w.setWidth 8 &&& groupMask g })
  | counter (n : CounterId) : Accepted s (s.clearCounter n)
  | openPort (p : Port) {t : State} (h : s.openPort p = .ok t) : Accepted s t
  | closePort (p : Port) {t : State} (h : s.closePort p = .ok t) : Accepted s t
  | resetPort (p : Port) {t : State} (h : s.resetPort p = .ok t) : Accepted s t
  | resetDownstream : Accepted s s.resetDownstream
  | purgeClass (c : ClassId) : Accepted s (s.purgeClass c)
  | reloadClass (c : ClassId) : Accepted s (s.updClass c ClassRec.fullRefill)
  | setLowest (c : ClassId) : Accepted s (s.updArb fun a => { a with ring := rotateLast a.ring c })
  | swapBanks : Accepted s s.swapBanks
  | snapshot (classes : Byte) : Accepted s (s.snapshot classes)
  | trafficReset : Accepted s s.trafficReset

/-- What a command makes of the state. -/
inductive Effect (s : State) : Instr → State → Prop
  | nothing (i : Instr) : Effect s i s
  | accepted (i : Instr) {u : State} (h : Accepted s u) : Effect s i (u.updMgmt MgmtLink.advance)
  | rejected (i : Instr) (r : Reject) : Effect s i ((s.wordRefused r).updMgmt MgmtLink.advance)
  | discarded (p : Port) (packet : List Byte) (hr : s.awake = true) (hl : (s.ports.get p).linkUp = true)
      (hd : (s.ports.get p).admits (readHostPacket packet) = none) :
    Effect s (.arrivalEvent p packet) (s.discardPacket p)
  | refused (p : Port) (packet : List Byte) (kind : ReqKind) (reason : RefusalReason) (cls : Option ClassId)
      (hr : s.awake = true) (hl : (s.ports.get p).linkUp = true)
      (hk : (s.ports.get p).admits (readHostPacket packet) = some kind)
      (hv : s.intake p kind (readHostPacket packet) = .refuse reason cls) :
    Effect s (.arrivalEvent p packet)
      ((s.updPort p (·.admitTag (readHostPacket packet).hostTag)).refuseRequest p (readHostPacket packet).hostTag
        reason cls)
  | taken (p : Port) (packet : List Byte) (kind : ReqKind) (c : ClassId)
      (hr : s.awake = true) (hl : (s.ports.get p).linkUp = true)
      (hk : (s.ports.get p).admits (readHostPacket packet) = some kind)
      (hv : s.intake p kind (readHostPacket packet) = .take c) :
    Effect s (.arrivalEvent p packet)
      ((s.updPort p (·.admitTag (readHostPacket packet).hostTag)).takeRequest
        (storeEntryOf p kind (readHostPacket packet) c))
  | portLinkUp (p : Port) (hr : s.awake = true) (hl : (s.ports.get p).linkUp = false) :
    Effect s (.portLinkUp p) (s.portLinkUp p)
  | portLinkLost (p : Port) (hr : s.awake = true) (hl : (s.ports.get p).linkUp = true) :
    Effect s (.portLinkLost p) (s.portLinkLost p)
  | upstreamSendBegin (p : Port) (hr : s.awake = true) (hl : (s.ports.get p).linkUp = true)
      (ht : (s.ports.get p).upTx = .idle) :
    Effect s (.upstreamSendBegin p) (s.updPort p PortRec.beginSend)
  | creditSendEnd (p : Port) (n : Nat) (hr : s.awake = true) (ht : (s.ports.get p).upTx = .credit n) :
    Effect s (.creditSendEnd p) (s.updPort p fun k => { k with upTx := .idle })
  | responseSendEnd (p : Port) (hr : s.awake = true) (ht : (s.ports.get p).upTx = .response) :
    Effect s (.responseSendEnd p) (s.responseSent p)
  | settled (hd : s.DecisionDue) (hg : s.settleTenure.grantee = none) :
    Effect s .grantDecision s.settleTenure
  | granted (c : ClassId) (kind : GrantKind) (e : StoreEntry) (d : DTag) (hd : s.DecisionDue)
      (hg : s.settleTenure.grantee = some ((c, kind), e, d)) :
    Effect s .grantDecision (s.settleTenure.grant c kind e d)
  | sendEnd (hr : s.awake = true) (hi : s.issuing.isSome = true) : Effect s .sendEnd s.freeIssuing
  | memoryPacket (i : Instr) (packet : List Byte) (hr : s.memoryListens = true) :
    Effect s i (s.memoryPacket (readMemPacket packet))
  | memTraining (hr : s.awake = true) (hl : s.mem.link ≠ .up) :
    Effect s .memTraining (s.updMem fun m => { m with link := .training, retrain := false })
  | memLinkUp (n : BitVec 6) (hr : s.awake = true) (hl : s.mem.link = .training) :
    Effect s (.memLinkUp n) (s.memoryLinkUp n.toNat)
  | memLinkLost (hr : s.awake = true) (hl : s.mem.link = .up) :
    Effect s .memLinkLost ((s.clearDownstream.updMem fun m => { m with link := .down }).raise (.down .linkLost))
  | entryTimeout (d : DTag) (hr : s.awake = true) : Effect s (.entryTimeout d) (s.timeOut d)
  | firstExpiry (c : ClassId) (hr : s.awake = true) (hw : s.waitExpired c = true)
      (hs : (s.classes.get c).strikes = 0) :
    Effect s (.waitClockExpiry c) (s.firstExpiry c)
  | secondExpiry (c : ClassId) (hr : s.awake = true) (hw : s.waitExpired c = true)
      (hs : (s.classes.get c).strikes ≠ 0) :
    Effect s (.waitClockExpiry c) (s.secondExpiry c)
  | epochBoundary (hr : s.awake = true) (he : s.epoch.atEnd = true) : Effect s .epochBoundary s.epochBoundary
  | midEpochPoint (hr : s.awake = true) (he : s.epoch.atMid = true) : Effect s .midEpochPoint s.midEpochPoint
  | frameEdge (hr : s.awake = true) : Effect s .frameEdge s.frameEdge
  | rstAssert : Effect s .rstAssert ((s.atPowerOn false).updPins fun k => { k with rstLow := true })
  | rstRelease (b : Bool) (hr : s.pins.rstLow = true) : Effect s (.rstRelease b) (s.atPowerOn b)
  | csFallAsleep (hc : s.pins.csLow = false) (hr : s.awake = false) :
    Effect s .csFall (s.updPins fun k => { k with csLow := true })
  | csFall (hc : s.pins.csLow = false) (hr : s.awake = true) :
    Effect s .csFall (s.updPins fun k => { k with csLow := true }).openFrame
  | opcodeByte (b : Byte) (hr : s.awake = true) (hp : s.mgmt.phase = .opcode) :
    Effect s (.opcodeByte b) (s.updMgmt (·.takeOpcode b))
  | lastAddressBit (a : Addr) (hr : s.awake = true) (hp : s.mgmt.phase = .address) :
    Effect s (.lastAddressBit a) (s.takeAddress a)
  | csRiseAsleep (hc : s.pins.csLow = true) (hr : s.awake = false) :
    Effect s .csRise (s.updPins fun k => { k with csLow := false })
  | csRise (hc : s.pins.csLow = true) (hr : s.awake = true) :
    Effect s .csRise (s.updPins fun k => { k with csLow := false }).closeFrame
  | claimCapture (g : GroupId) (hr : s.readingFreely = true) (hn : s.comesNext (beforeClaim g) = true) :
    Effect s (.claimCapture g) (s.captureAt (beforeClaim g + 1))
  | claimCompletion (g : GroupId) (hr : s.awake = true) (hp : s.mgmt.phase = .reading)
      (hg : s.mgmt.claiming = some g) :
    Effect s .claimCompletion ((s.completeClaim g).captureAt (s.mgmt.address + 1))
  | snapshotSlotRead (c : ClassId) (hr : s.readingFreely = true)
      (hn : s.comesNext (slotLast s.mgmt.readStart c) = true) :
    Effect s (.snapshotSlotRead c)
      ((s.updClass c fun k => { k with slot := none }).captureAt (slotLast s.mgmt.readStart c + 1))

/-! ## Accepted words -/

section owners
variable {s t : State}

theorem Accepted.of_ownMode {c : ClassId} {w : Word} (h : ownMode c w s = .ok t) : Accepted s t := by
  unfold ownMode at h
  split at h
  · cases h
  · next m _ => cases h; exact .mode c m

theorem Accepted.of_ownAllowance {c : ClassId} {w : Word} (h : ownAllowance c w s = .ok t) : Accepted s t := by
  obtain ⟨hn, rfl⟩ := accept_eq_ok h
  exact .allowance c _ (of_decide_eq_true hn)

theorem Accepted.of_ownTenureLimit {c : ClassId} {w : Word} (h : ownTenureLimit c w s = .ok t) : Accepted s t := by
  obtain ⟨hn, rfl⟩ := accept_eq_ok h
  exact .tenureLimit c _ (by simpa using hn)

theorem Accepted.of_ownWaitLimit {c : ClassId} {w : Word} (h : ownWaitLimit c w s = .ok t) : Accepted s t := by
  obtain ⟨hn, rfl⟩ := accept_eq_ok h
  exact .waitLimit c _ (of_decide_eq_true hn)

theorem Accepted.of_ownAdmit {c : ClassId} {w : Word} (h : ownAdmit c w s = .ok t) : Accepted s t := by
  obtain ⟨-, rfl⟩ := accept_eq_ok h
  exact .admission c _

theorem Accepted.of_ownDepthLimit {c : ClassId} {w : Word} (h : ownDepthLimit c w s = .ok t) : Accepted s t := by
  obtain ⟨hn, rfl⟩ := accept_eq_ok h
  exact .depthLimit c _ (by simpa using hn)

theorem Accepted.of_ownDefaultClass {p : Port} {w : Word} (h : ownDefaultClass p w s = .ok t) : Accepted s t := by
  unfold ownDefaultClass at h
  split at h
  · cases h
  · next a _ => cases h; exact .defaultAction p a

theorem Accepted.of_ownCreditLimit {p : Port} {w : Word} (h : ownCreditLimit p w s = .ok t) : Accepted s t := by
  unfold ownCreditLimit at h
  split at h
  · cases h
  · next hn =>
    split at h
    · cases h
    · next hp =>
      split at h
      · cases h
      · next hs =>
        cases h
        unfold Config.maxCreditLimit at hn
        exact .creditLimit p _ (by omega) (Bool.eq_false_iff.mpr hp) (not_lt.mp hs)

theorem Accepted.of_ownDeviceConfig {w : Word} (h : ownDeviceConfig w s = .ok t) : Accepted s t := by
  obtain ⟨hn, rfl⟩ := accept_eq_ok h
  exact .deviceConfig _ _ (by simpa using hn)

theorem Accepted.of_ownRing {w : Word} (h : ownRing w s = .ok t) : Accepted s t := by
  unfold ownRing at h
  split at h
  · cases h
  · next r hr => cases h; exact .ring w r hr

theorem Accepted.of_ownMemLimit {w : Word} (h : ownMemLimit w s = .ok t) : Accepted s t := by
  obtain ⟨hn, rfl⟩ := accept_eq_ok h
  exact .memLimit _ (by simpa using hn)

theorem Accepted.of_ownTimeout {w : Word} (h : ownTimeout w s = .ok t) : Accepted s t := by
  obtain ⟨hn, rfl⟩ := accept_eq_ok h
  exact .timeout _ (of_decide_eq_true hn)

theorem Accepted.of_ownQuarantineLevel {w : Word} (h : ownQuarantineLevel w s = .ok t) : Accepted s t := by
  obtain ⟨hn, rfl⟩ := accept_eq_ok h
  exact .quarantineLevel _ (by simpa using hn)

theorem Accepted.of_ownFlowEntry {b : Bank} {i : EntryIdx} {k : Fin 4} {w : Word}
    (h : ownFlowEntry b i k w s = .ok t) : Accepted s t := by
  unfold ownFlowEntry at h
  split at h
  · cases h
  · next hb =>
    split at h
    · cases h
    · next e _ =>
      obtain ⟨he, rfl⟩ := accept_eq_ok h
      exact .flowEntry b i e hb he

theorem Accepted.of_ownEnable {g : GroupId} {w : Word} (h : ownEnable g w s = .ok t) : Accepted s t := by
  cases h; exact .enables g w

theorem Accepted.of_ownCounter {n : CounterId} {w : Word} (h : ownCounter n w s = .ok t) : Accepted s t := by
  cases h; exact .counter n

/-- A port command that is accepted names a port and is that command's effect on it. -/
theorem Accepted.of_onPort {arg : Byte} {f : Port → State → Except Reject State}
    (hf : ∀ p, f p s = .ok t → Accepted s t) (h : onPort arg f s = .ok t) : Accepted s t :=
  have ⟨p, _, hp⟩ := onPort_eq_ok h
  hf p hp

/-- A class command that is accepted names a class and is that command's effect on it. -/
theorem Accepted.of_onClass {arg : Byte} {f : ClassId → State → State} (hf : ∀ c, Accepted s (f c s))
    (h : onClass arg f s = .ok t) : Accepted s t :=
  have ⟨c, _, hc⟩ := onClass_eq_ok h
  hc ▸ hf c

theorem Accepted.of_ownCommand {w : Word} (h : ownCommand w s = .ok t) : Accepted s t := by
  unfold ownCommand at h
  dsimp only at h
  split at h
  · exact of_onPort (fun p => .openPort p) h
  · exact of_onPort (fun p => .closePort p) h
  · exact of_onPort (fun p => .resetPort p) h
  · cases h; exact .resetDownstream
  · exact of_onClass .purgeClass h
  · exact of_onClass .reloadClass h
  · exact of_onClass .setLowest h
  · cases h; exact .swapBanks
  · cases h; exact .snapshot _
  · cases h; exact .trafficReset
  · cases h

/-- Whatever word is accepted, at whatever address: one of the effects of the list. -/
theorem Accepted.of_ownWord {a : Option MgmtWord} {w : Word} (h : ownWord a w s = .ok t) : Accepted s t := by
  unfold ownWord at h
  split at h
  · exact of_ownMode h
  · exact of_ownAllowance h
  · exact of_ownAdmit h
  · exact of_ownDepthLimit h
  · exact of_ownTenureLimit h
  · exact of_ownWaitLimit h
  · exact of_ownCreditLimit h
  · exact of_ownDefaultClass h
  · exact of_ownDeviceConfig h
  · exact of_ownMemLimit h
  · exact of_ownTimeout h
  · exact of_ownQuarantineLevel h
  · exact of_ownRing h
  · exact of_ownCommand h
  · exact of_ownFlowEntry h
  · exact of_ownCounter h
  · exact of_ownEnable h
  · cases h

/-- The effect of a word at a row of its own. -/
theorem Effect.of_writeWord {w : MgmtWord} {own : State → Except Reject State} {i : Instr}
    (hown : ∀ u, own s = .ok u → Accepted s u)
    (h : Host.Outcome.next (s.writeWord w own) = (.next t : Host.Outcome State Fault Refusal)) :
    Effect s i t := by
  injection h with h
  subst h
  rcases s.writeWord_cases w own with h | ⟨u, hu, h⟩ | ⟨r, -, h⟩
  · rw [h]; exact .nothing i
  · rw [h]; exact .accepted i (hown u hu)
  · rw [h]; exact .rejected i r

end owners

/-! ## Commands -/

/-- A command with a guard: its effect where the guard holds, nothing where it does not. -/
theorem Effect.of_guard {s t u : State} {i : Instr} {b : Bool} (hb : b = true → Effect s i u)
    (h : Host.Outcome.next (if b = true then u else s) = (.next t : Host.Outcome State Fault Refusal)) :
    Effect s i t := by
  injection h with h
  subst h
  split
  · next h => exact hb h
  · exact .nothing i

theorem Effect.of_arrivalEvent {s t : State} {p : Port} {packet : List Byte}
    (h : execArrivalEvent p packet s = .next t) : Effect s (.arrivalEvent p packet) t := by
  refine of_guard (fun hb => ?_) h
  obtain ⟨hr, hl⟩ := Bool.and_eq_true_iff.mp hb
  unfold State.arrive
  split
  · next hk => exact .discarded p packet hr hl hk
  · next kind hk =>
    split
    · next reason cls hv => exact .refused p packet kind reason cls hr hl hk hv
    · next c hv => exact .taken p packet kind c hr hl hk hv

theorem Effect.of_grantDecision {s t : State} (h : execGrantDecision s = .next t) : Effect s .grantDecision t := by
  refine of_guard (fun hb => ?_) h
  have hd := s.decisionDue_iff.mp hb
  split
  · next c kind e d hg => exact .granted c kind e d hd hg
  · next hg => exact .settled hd hg

theorem Effect.of_creditSendEnd {s t : State} {p : Port} (h : execCreditSendEnd p s = .next t) :
    Effect s (.creditSendEnd p) t := by
  unfold execCreditSendEnd at h
  split at h
  · next n hn => exact of_guard (fun hr => .creditSendEnd p n hr hn) h
  · cases h; exact .nothing _

theorem Effect.of_responseSendEnd {s t : State} {p : Port} (h : execResponseSendEnd p s = .next t) :
    Effect s (.responseSendEnd p) t := by
  unfold execResponseSendEnd at h
  split at h
  · next hn => exact of_guard (fun hr => .responseSendEnd p hr hn) h
  · cases h; exact .nothing _

theorem Effect.of_waitClockExpiry {s t : State} {c : ClassId} (h : execWaitClockExpiry c s = .next t) :
    Effect s (.waitClockExpiry c) t := by
  refine of_guard (fun hb => ?_) h
  obtain ⟨hr, hw⟩ := Bool.and_eq_true_iff.mp hb
  split
  · next hs => exact .firstExpiry c hr hw hs
  · next hs => exact .secondExpiry c hr hw hs

theorem Effect.of_csFall {s t : State} (h : execCsFall s = .next t) : Effect s .csFall t := by
  unfold execCsFall at h
  injection h with h
  subst h
  split
  · exact .nothing _
  · next hc =>
    split
    · next hr => exact .csFall (Bool.eq_false_iff.mpr hc) hr
    · next hr => exact .csFallAsleep (Bool.eq_false_iff.mpr hc) (Bool.eq_false_iff.mpr hr)

theorem Effect.of_csRise {s t : State} (h : execCsRise s = .next t) : Effect s .csRise t := by
  refine of_guard (fun hc => ?_) h
  split
  · next hr => exact .csRise hc hr
  · next hr => exact .csRiseAsleep hc (Bool.eq_false_iff.mpr hr)

theorem Effect.of_claimCompletion {s t : State} (h : execClaimCompletion s = .next t) :
    Effect s .claimCompletion t := by
  refine of_guard (fun hb => ?_) h
  obtain ⟨hr, hp⟩ := Bool.and_eq_true_iff.mp hb
  split
  · next g hg => exact .claimCompletion g hr (eq_of_beq hp) hg
  · exact .nothing _

theorem Effect.of_wordWrite {s t : State} {w : Word} (h : execWordWrite w s = .next t) :
    Effect s (.wordWrite w) t := by
  refine of_guard (fun _ => ?_) h
  unfold State.takeWord
  split
  · next u hu => exact .accepted _ (.of_ownWord hu)
  · next r _ => rw [State.refuseWord_eq]; exact .rejected _ r

/-- What a command can do: every outcome of a command is one of its effects. -/
theorem effect_of_exec {i : Instr} {s t : State} (h : exec i s = .next t) : Effect s i t := by
  cases i with
  | arrivalEvent p packet => exact .of_arrivalEvent h
  | portLinkUp p =>
    exact .of_guard (fun hb => by
      obtain ⟨hr, hl⟩ := Bool.and_eq_true_iff.mp hb
      exact .portLinkUp p hr (by simpa using hl)) h
  | portLinkLost p =>
    exact .of_guard (fun hb => have ⟨hr, hl⟩ := Bool.and_eq_true_iff.mp hb; .portLinkLost p hr hl) h
  | upstreamSendBegin p =>
    refine .of_guard (fun hb => ?_) h
    simp only [Bool.and_eq_true, beq_iff_eq] at hb
    obtain ⟨⟨hr, hl⟩, ht⟩ := hb
    exact .upstreamSendBegin p hr hl ht
  | creditSendEnd p => exact .of_creditSendEnd h
  | responseSendEnd p => exact .of_responseSendEnd h
  | grantDecision => exact .of_grantDecision h
  | sendEnd => exact .of_guard (fun hb => have ⟨hr, hi⟩ := Bool.and_eq_true_iff.mp hb; .sendEnd hr hi) h
  | memoryResponse packet => exact .of_guard (.memoryPacket _ packet) h
  | memCredit packet => exact .of_guard (.memoryPacket _ packet) h
  | memTraining =>
    exact .of_guard (fun hb => have ⟨hr, hl⟩ := Bool.and_eq_true_iff.mp hb; .memTraining hr (by simpa using hl)) h
  | memLinkUp n =>
    exact .of_guard (fun hb => have ⟨hr, hl⟩ := Bool.and_eq_true_iff.mp hb; .memLinkUp n hr (eq_of_beq hl)) h
  | memLinkLost =>
    exact .of_guard (fun hb => have ⟨hr, hl⟩ := Bool.and_eq_true_iff.mp hb; .memLinkLost hr (eq_of_beq hl)) h
  | entryTimeout d => exact .of_guard (.entryTimeout d) h
  | waitClockExpiry c => exact .of_waitClockExpiry h
  | epochBoundary =>
    exact .of_guard (fun hb => have ⟨hr, he⟩ := Bool.and_eq_true_iff.mp hb; .epochBoundary hr he) h
  | midEpochPoint =>
    exact .of_guard (fun hb => have ⟨hr, he⟩ := Bool.and_eq_true_iff.mp hb; .midEpochPoint hr he) h
  | frameEdge => exact .of_guard .frameEdge h
  | rstAssert => cases h; exact .rstAssert
  | rstRelease b => exact .of_guard (.rstRelease b) h
  | csFall => exact .of_csFall h
  | opcodeByte b =>
    exact .of_guard (fun hb => have ⟨hr, hp⟩ := Bool.and_eq_true_iff.mp hb; .opcodeByte b hr (eq_of_beq hp)) h
  | lastAddressBit a =>
    exact .of_guard (fun hb => have ⟨hr, hp⟩ := Bool.and_eq_true_iff.mp hb; .lastAddressBit a hr (eq_of_beq hp)) h
  | csRise => exact .of_csRise h
  | claimCapture g =>
    exact .of_guard (fun hb => have ⟨hr, hn⟩ := Bool.and_eq_true_iff.mp hb; .claimCapture g hr hn) h
  | claimCompletion => exact .of_claimCompletion h
  | snapshotSlotRead c =>
    exact .of_guard (fun hb => have ⟨hr, hn⟩ := Bool.and_eq_true_iff.mp hb; .snapshotSlotRead c hr hn) h
  | wordWrite w => exact .of_wordWrite h
  | modeWrite c w => exact .of_writeWord (fun _ => .of_ownMode) h
  | allowanceWrite c w => exact .of_writeWord (fun _ => .of_ownAllowance) h
  | deviceConfigWrite w => exact .of_writeWord (fun _ => .of_ownDeviceConfig) h
  | ringWrite w => exact .of_writeWord (fun _ => .of_ownRing) h
  | tenureLimitWrite c w => exact .of_writeWord (fun _ => .of_ownTenureLimit) h
  | waitLimitWrite c w => exact .of_writeWord (fun _ => .of_ownWaitLimit) h
  | flowEntryWrite b i k w => exact .of_writeWord (fun _ => .of_ownFlowEntry) h
  | defaultClassWrite p w => exact .of_writeWord (fun _ => .of_ownDefaultClass) h
  | memLimitWrite w => exact .of_writeWord (fun _ => .of_ownMemLimit) h
  | admitWrite c w => exact .of_writeWord (fun _ => .of_ownAdmit) h
  | depthLimitWrite c w => exact .of_writeWord (fun _ => .of_ownDepthLimit) h
  | creditLimitWrite p w => exact .of_writeWord (fun _ => .of_ownCreditLimit) h
  | timeoutWrite w => exact .of_writeWord (fun _ => .of_ownTimeout) h
  | quarantineLevelWrite w => exact .of_writeWord (fun _ => .of_ownQuarantineLevel) h
  | enableWrite g w => exact .of_writeWord (fun _ => .of_ownEnable) h
  | counterWrite n w => exact .of_writeWord (fun _ => .of_ownCounter) h
  | openPort arg => exact .of_writeWord (fun _ => .of_onPort fun p => .openPort p) h
  | closePort arg => exact .of_writeWord (fun _ => .of_onPort fun p => .closePort p) h
  | resetPort arg => exact .of_writeWord (fun _ => .of_onPort fun p => .resetPort p) h
  | resetDownstream => exact .of_writeWord (fun _ hu => by cases hu; exact .resetDownstream) h
  | purgeClass arg => exact .of_writeWord (fun _ => .of_onClass .purgeClass) h
  | reloadClass arg => exact .of_writeWord (fun _ => .of_onClass .reloadClass) h
  | setLowest arg => exact .of_writeWord (fun _ => .of_onClass .setLowest) h
  | swapBanks => exact .of_writeWord (fun _ hu => by cases hu; exact .swapBanks) h
  | snapshot classes => exact .of_writeWord (fun _ hu => by cases hu; exact .snapshot classes) h
  | trafficReset => exact .of_writeWord (fun _ hu => by cases hu; exact .trafficReset) h

/-- What a step can do: it is a base tick, or the effect of the command at the front of the queue. -/
theorem effect_of_step {s t : State} (h : step s = .next t) :
    (s.pending = [] ∧ t = s.tick)
      ∨ ∃ i rest, s.pending = i :: rest ∧ Effect { s with pending := rest } i t := by
  unfold step at h
  split at h
  · next hp => injection h with h; exact .inl ⟨hp, h.symm⟩
  · next i rest hp => exact .inr ⟨i, rest, hp, effect_of_exec h⟩

end Sys2Proof.Machine


/-! # A decision and its grant

What a choice implies of the class it names (R49), and a grant's six parts as one record (R54). -/

namespace Sys2Proof.Machine

/-! ## The choice -/

/-- The class that an escape grant is chosen for is an escape candidate (R49 step 1). -/
theorem State.escaping_of_choose {s : State} {c : ClassId} (h : s.choose = some (c, .escape)) : s.Escaping c := by
  unfold State.choose State.chooseNormal at h
  split at h
  · next x hx =>
    cases h
    exact ⟨List.mem_of_find?_eq_some hx, (s.headReady_iff c).mp (List.find?_some hx)⟩
  · split at h
    · cases h
    · simp at h

/-- Where a class is an escape candidate, no normal grant is chosen (R49). -/
theorem State.not_escaping_of_choose {s : State} {c : ClassId} {kind : GrantKind} (h : s.choose = some (c, kind))
    (hk : kind ≠ .escape) (x : ClassId) : ¬s.Escaping x := by
  rintro ⟨hx, hr⟩
  unfold State.choose at h
  split at h
  · cases h; exact hk rfl
  · next hn => exact List.find?_eq_none.mp hn x hx ((s.headReady_iff x).mpr hr)

/-- A choice without an escape is the normal one. -/
theorem State.chooseNormal_of_choose {s : State} {c : ClassId} {kind : GrantKind} (h : s.choose = some (c, kind))
    (hk : kind ≠ .escape) : s.chooseNormal = some (c, kind) := by
  unfold State.choose at h
  split at h
  · cases h; exact absurd rfl hk
  · exact h

/-- Step 2 names the holder, whose tenure continues. -/
theorem State.continues_of_chooseNormal {s : State} {c : ClassId} (h : s.chooseNormal = some (c, .continued)) :
    s.arb.holder = some c ∧ s.tenureContinues c = true := by
  unfold State.chooseNormal at h
  split at h
  · next x hx =>
    cases h
    exact Option.filter_eq_some_iff.mp hx
  · simp at h

/-- Step 3 names the first eligible class of the ring, and the holder's tenure does not continue. -/
theorem State.begins_of_chooseNormal {s : State} {c : ClassId} (h : s.chooseNormal = some (c, .begun)) :
    s.arb.ring.find? s.eligible = some c ∧ ∀ x, s.arb.holder = some x → s.tenureContinues x = false := by
  unfold State.chooseNormal at h
  split at h
  · cases h
  · next hn =>
    refine ⟨by simpa using h, fun x hx => ?_⟩
    rw [hx] at hn
    simpa using hn

/-- A normal grant is chosen for an eligible class alone (R44). -/
theorem State.eligible_of_chooseNormal {s : State} {c : ClassId} {kind : GrantKind}
    (h : s.chooseNormal = some (c, kind)) : s.eligible c = true := by
  cases kind with
  | escape => unfold State.chooseNormal at h; split at h <;> simp at h
  | continued =>
    have hc := (s.continues_of_chooseNormal h).2
    simp only [State.tenureContinues, Bool.and_eq_true] at hc
    obtain ⟨⟨heligible, -⟩, -⟩ := hc
    exact heligible
  | begun => exact List.find?_some (s.begins_of_chooseNormal h).1

/-- A class that is chosen has a READY head. -/
theorem State.ready_of_choose {s : State} {c : ClassId} {kind : GrantKind} (h : s.choose = some (c, kind)) :
    s.Ready c := by
  by_cases hk : kind = .escape
  · subst hk; exact (s.escaping_of_choose h).2
  · exact ((s.eligible_iff c).mp (s.eligible_of_chooseNormal (s.chooseNormal_of_choose h hk))).1

/-- What a decision grants: the chosen class, its head and the lowest FREE tag (R54, R55). -/
theorem State.grantee_eq_some {s : State} {c : ClassId} {kind : GrantKind} {e : StoreEntry} {d : DTag} :
    s.grantee = some ((c, kind), e, d)
      ↔ s.choose = some (c, kind) ∧ (s.queue c).head? = some e ∧ s.mem.lowestFree = some d := by
  simp only [State.grantee, Option.bind_eq_some_iff, Option.map_eq_some_iff, Prod.mk.injEq]
  constructor
  · rintro ⟨_, hc, _, he, _, hd, rfl, rfl, rfl⟩
    exact ⟨hc, he, hd⟩
  · rintro ⟨hc, he, hd⟩
    exact ⟨_, hc, e, he, d, hd, rfl, rfl, rfl⟩

/-- The head of a class queue stands in the order of taking with no entry of its class before it (R8). -/
theorem State.queue_head_split {s : State} {c : ClassId} {e : StoreEntry} (h : (s.queue c).head? = some e) :
    ∃ before after, s.held = before ++ e :: after ∧ e.cls = c ∧ (∀ x ∈ before, x.cls ≠ c)
      ∧ s.held.eraseP (·.cls = c) = before ++ after := by
  unfold State.queue at h
  rw [List.head?_filter] at h
  obtain ⟨hc, before, after, hl, hb⟩ := List.find?_eq_some_iff_append.mp h
  have hb' : ∀ x ∈ before, x.cls ≠ c := fun x hx => by simpa using hb x hx
  refine ⟨before, after, hl, of_decide_eq_true hc, hb', ?_⟩
  rw [hl, List.eraseP_append_right _ fun x hx => by simpa using hb' x hx]
  exact congrArg (before ++ ·) (List.eraseP_cons_of_pos hc)

/-! ## The grant -/

/-- The memory port after a grant of `e` under the tag `d` (R78, R127, R130). -/
def MemPort.granted (m : MemPort) (d : DTag) (e : StoreEntry) : MemPort :=
  { m with
    table := m.table.put d (.inFlight (recordOf e) m.initialTime)
    credits := m.credits - 1
    dTx := some ⟨d, e⟩ }

/-- Class `k` after a grant of `n` units to it (R24, R25, R65 to R67, R152). -/
def ClassRec.granted (k : ClassRec) (kind : GrantKind) (n : Nat) : ClassRec :=
  { k with
    budget := if kind ≠ .escape ∧ k.mode ≠ .unmetered then k.budget - n else k.budget
    strikes := 0
    clock := 0
    activeWait := k.writtenWait
    grants := bump k.grants 1
    grantedUnits := bump k.grantedUnits n
    escapeGrants := if kind = .escape then bump k.escapeGrants 1 else k.escapeGrants }

/-- The causes that a grant raises: ESCAPE, or SPENT where a normal one spends the budget (R26, R65). -/
def State.withGrantCause (s : State) (c : ClassId) (kind : GrantKind) (n : Nat) : State :=
  if kind = .escape then s.withCause (classGroup c) 2
  else if (s.classes.get c).spends n then s.withCause (classGroup c) 0 else s

/-- A grant's six parts in one record (R54). -/
theorem State.grant_eq (s : State) (c : ClassId) (kind : GrantKind) (e : StoreEntry) (d : DTag) :
    s.grant c kind e d = { s with
      held := s.held.eraseP (·.cls = c)
      issuing := some e
      mem := s.mem.granted d e
      arb := s.arb.afterGrant c kind (s.classes.get c).tenureLimit
      classes := s.classes.put c ((s.classes.get c).granted kind e.length)
      escapeList := s.escapeList.filter (· ≠ c)
      groups := (s.withGrantCause c kind e.length).groups } := by
  simp only [State.grant, State.grantCounters, State.grantMonitor_eq, State.grantArbiter, State.grantMemory,
    State.grantBudget_eq, State.grantStore, State.updClass, State.updArb, State.updMem, State.withGrantCause,
    ClassRec.charge_eq, ClassRec.granted, MemPort.granted, MemPort.putEntry]
  by_cases hk : kind = .escape
  · simp [hk, State.withCause]
  · by_cases hspends : (s.classes.get c).spends e.length = true <;> simp [hk, hspends, State.withCause]

end Sys2Proof.Machine


/-! # The store and the classes under every command

What a command can do to the entries of the store, to the in-flight records and to a class's budget and snapshot slot,
said once for all commands (R2, R4, R21, R129, R154). -/

namespace Sys2Proof.Machine

/-! ## Moves of the store -/

/-- Nothing new is stored: HELD entries are only taken away, in their order (R4), an ISSUING entry is at most freed, and
each in-flight record stays or goes. -/
structure StoreKept (s t : State) : Prop where
  held : t.held.Sublist s.held
  issuing : t.issuing = s.issuing ∨ t.issuing = none
  records : ∀ d, (t.mem.table.get d).record = (s.mem.table.get d).record ∨ (t.mem.table.get d).record = none

/-- What a command can do to the store and the in-flight records. -/
inductive StoreMove (s : State) : Instr → State → Prop
  | kept {i : Instr} {t : State} (h : StoreKept s t) : StoreMove s i t
  | taken {t : State} (packet : List Byte) (e : StoreEntry) (he : e.Sound) (hh : t.held = s.held ++ [e])
      (hi : t.issuing = s.issuing) (ht : t.mem.table = s.mem.table) : StoreMove s (.arrivalEvent e.port packet) t
  | granted {i : Instr} {t : State} (e : StoreEntry) (d : DTag) (left : Option Nat) (he : e ∈ s.held)
      (hh : t.held.Sublist s.held) (hi : t.issuing = some e)
      (ht : t.mem.table = s.mem.table.put d (.inFlight (recordOf e) left)) : StoreMove s i t

/-! ## Moves of a class -/

/-- What a command can do to the budget and the allowance of class `c` (R21): nothing, a refill with its debt (R27,
R29), an addition up to A (R29), a restoring without debt (R30, R42), a new allowance (R31), the charge of a normal
grant (R24), or the power-on values (R41). -/
inductive BudgetMove (s : State) (c : ClassId) : Int → Nat → Prop
  | kept : BudgetMove s c (s.classes.get c).budget (s.classes.get c).allowance
  | refilled (share : Nat) (hs : share ≤ (s.classes.get c).allowance) :
    BudgetMove s c (refilled share (s.classes.get c).budget) (s.classes.get c).allowance
  | topped (n : Nat) :
    BudgetMove s c (min ((s.classes.get c).budget + n) (s.classes.get c).allowance) (s.classes.get c).allowance
  | entered (m : Mode) :
    BudgetMove s c (entryBudget m (s.classes.get c).allowance) (s.classes.get c).allowance
  | lowered (n : Nat) (hn : n ≤ 65535) : BudgetMove s c (min (s.classes.get c).budget n) n
  | charged (e : StoreEntry) (he : e ∈ s.held) (hb : 0 < (s.classes.get c).budget) :
    BudgetMove s c ((s.classes.get c).budget - e.length) (s.classes.get c).allowance
  | poweredOn : BudgetMove s c 0 0

/-- What a command can make of class `c`'s budget and snapshot slot: the slot keeps what it holds, is freed, or takes
the class as it stands (R154 to R157). -/
structure ClassMove (s : State) (c : ClassId) (k : ClassRec) : Prop where
  budget : BudgetMove s c k.budget k.allowance
  slot : k.slot = (s.classes.get c).slot ∨ k.slot = none ∨ k.slot = some (s.snapshotOf c)

/-- Two records of a class agree on the budget, the allowance and the snapshot slot. -/
structure ClassRec.SameMeter (j k : ClassRec) : Prop where
  budget : k.budget = j.budget
  allowance : k.allowance = j.allowance
  slot : k.slot = j.slot

theorem ClassRec.SameMeter.refl (k : ClassRec) : k.SameMeter k := ⟨rfl, rfl, rfl⟩

theorem ClassRec.SameMeter.trans {i j k : ClassRec} (h : i.SameMeter j) (g : j.SameMeter k) : i.SameMeter k :=
  ⟨g.budget.trans h.budget, g.allowance.trans h.allowance, g.slot.trans h.slot⟩

theorem ClassRec.SameMeter.ite {j k l : ClassRec} {p : Prop} [Decidable p] (hk : j.SameMeter k)
    (hl : j.SameMeter l) : j.SameMeter (if p then k else l) := by
  split
  · exact hk
  · exact hl

/-- Every class keeps its budget, its allowance and its snapshot slot. -/
def MetersKept (s t : State) : Prop := ∀ c, (s.classes.get c).SameMeter (t.classes.get c)

theorem MetersKept.trans {s t u : State} (h : MetersKept s t) (g : MetersKept t u) : MetersKept s u :=
  fun c => (h c).trans (g c)

theorem ClassMove.of_sameMeter {s : State} {c : ClassId} {k : ClassRec} (h : (s.classes.get c).SameMeter k) :
    ClassMove s c k :=
  ⟨by rw [h.budget, h.allowance]; exact .kept, .inl h.slot⟩

theorem ClassMove.refl (s : State) (c : ClassId) : ClassMove s c (s.classes.get c) := .of_sameMeter (.refl _)

/-- One class that moves, the others standing, is a move of each class. -/
theorem ClassMove.put {s : State} {c : ClassId} {k : ClassRec} (h : ClassMove s c k) (x : ClassId) :
    ClassMove s x ((s.classes.put c k).get x) := by
  rw [Table.get_put]
  split
  · next hx => exact hx ▸ h
  · exact .refl s x

/-- What a command can do to the store and to every class. -/
structure Move (s : State) (i : Instr) (t : State) : Prop where
  store : StoreMove s i t
  classes : ∀ c, ClassMove s c (t.classes.get c)

/-! ## Effects elsewhere -/

/-- An effect that touches neither the store, nor the in-flight table, nor a class. -/
structure Untouched (s t : State) : Prop where
  held : t.held = s.held
  issuing : t.issuing = s.issuing
  table : t.mem.table = s.mem.table
  classes : t.classes = s.classes

theorem Untouched.refl (s : State) : Untouched s s := ⟨rfl, rfl, rfl, rfl⟩

theorem Untouched.trans {s t u : State} (h : Untouched s t) (g : Untouched t u) : Untouched s u :=
  ⟨g.held.trans h.held, g.issuing.trans h.issuing, g.table.trans h.table, g.classes.trans h.classes⟩

theorem Untouched.ite {s t u : State} {p : Prop} [Decidable p] (ht : Untouched s t) (hu : Untouched s u) :
    Untouched s (if p then t else u) := by
  split
  · exact ht
  · exact hu

theorem StoreKept.of_eq {s t : State} (hh : t.held = s.held) (hi : t.issuing = s.issuing)
    (ht : t.mem.table = s.mem.table) : StoreKept s t :=
  ⟨hh ▸ List.Sublist.refl _, .inl hi, fun d => .inl (by rw [ht])⟩

theorem StoreKept.refl (s : State) : StoreKept s s := .of_eq rfl rfl rfl

theorem StoreKept.trans {s t u : State} (h : StoreKept s t) (g : StoreKept t u) : StoreKept s u where
  held := g.held.trans h.held
  issuing := by
    rcases g.issuing with hg | hg
    · rw [hg]; exact h.issuing
    · exact .inr hg
  records d := by
    rcases g.records d with hg | hg
    · rw [hg]; exact h.records d
    · exact .inr hg

theorem Untouched.storeKept {s t : State} (h : Untouched s t) : StoreKept s t := .of_eq h.held h.issuing h.table

theorem Untouched.metersKept {s t : State} (h : Untouched s t) : MetersKept s t := fun c => by
  rw [h.classes]; exact .refl _

theorem Move.of_kept {s t : State} {i : Instr} (hs : StoreKept s t) (hm : MetersKept s t) : Move s i t :=
  ⟨.kept hs, fun c => .of_sameMeter (hm c)⟩

theorem Untouched.move {s t : State} {i : Instr} (h : Untouched s t) : Move s i t :=
  .of_kept h.storeKept h.metersKept

section untouched
variable (s : State)

theorem State.raise_untouched (k : Cause) : Untouched s (s.raise k) := ⟨rfl, rfl, rfl, rfl⟩

theorem State.updPort_untouched (p : Port) (f : PortRec → PortRec) : Untouched s (s.updPort p f) :=
  ⟨rfl, rfl, rfl, rfl⟩

theorem State.updMgmt_untouched (f : MgmtLink → MgmtLink) : Untouched s (s.updMgmt f) := ⟨rfl, rfl, rfl, rfl⟩

theorem State.updPins_untouched (f : Pins → Pins) : Untouched s (s.updPins f) := ⟨rfl, rfl, rfl, rfl⟩

theorem State.updArb_untouched (f : Arbiter → Arbiter) : Untouched s (s.updArb f) := ⟨rfl, rfl, rfl, rfl⟩

theorem State.enterOpen_untouched (p : Port) : Untouched s (s.enterOpen p) := ⟨rfl, rfl, rfl, rfl⟩

theorem State.answer_untouched (p : Port) (r : Response) : Untouched s (s.answer p r) := ⟨rfl, rfl, rfl, rfl⟩

theorem State.portLinkUp_untouched (p : Port) : Untouched s (s.portLinkUp p) := by
  unfold State.portLinkUp
  cases (s.ports.get p).state <;> exact ⟨rfl, rfl, rfl, rfl⟩

theorem State.responseSent_untouched (p : Port) : Untouched s (s.responseSent p) :=
  .ite ⟨rfl, rfl, rfl, rfl⟩ (s.updPort_untouched p _)

theorem State.settleTenure_untouched : Untouched s s.settleTenure := .ite (s.updArb_untouched _) (.refl s)

theorem State.memoryCredit_untouched (n : Nat) : Untouched s (s.memoryCredit n) :=
  .ite ⟨rfl, rfl, rfl, rfl⟩ ⟨rfl, rfl, rfl, rfl⟩

theorem State.memoryLinkUp_untouched (n : Nat) : Untouched s (s.memoryLinkUp n) :=
  .ite ⟨rfl, rfl, rfl, rfl⟩ ⟨rfl, rfl, rfl, rfl⟩

theorem State.unexpectedResponse_untouched : Untouched s s.unexpectedResponse := ⟨rfl, rfl, rfl, rfl⟩

theorem State.quarantineCheck_untouched (n : Nat) : Untouched s (s.quarantineCheck n) :=
  .ite (s.raise_untouched _) (.refl s)

theorem State.captureAt_untouched (a : Addr) : Untouched s (s.captureAt a) := by
  unfold State.captureAt State.captureWord
  split <;> exact ⟨rfl, rfl, rfl, rfl⟩

theorem State.takeAddress_untouched (a : Addr) : Untouched s (s.takeAddress a) := by
  unfold State.takeAddress
  split
  · exact (s.updMgmt_untouched _).trans (State.captureAt_untouched _ a)
  · exact s.updMgmt_untouched _
  · exact .refl s

theorem State.closeFrame_untouched : Untouched s s.closeFrame := by
  unfold State.closeFrame State.abandonClaim
  split <;> exact ⟨rfl, rfl, rfl, rfl⟩

theorem State.readTick_untouched : Untouched s s.readTick := .ite (s.captureAt_untouched _) (.refl s)

theorem State.openPort_untouched {p : Port} {t : State} (h : s.openPort p = .ok t) : Untouched s t := by
  unfold State.openPort at h
  split at h
  · cases h; exact s.updPort_untouched p _
  · cases h; exact .ite (s.enterOpen_untouched p) (s.updPort_untouched p _)
  · cases h

theorem State.closePort_untouched {p : Port} {t : State} (h : s.closePort p = .ok t) : Untouched s t := by
  unfold State.closePort at h
  split at h
  · cases h; exact .ite ⟨rfl, rfl, rfl, rfl⟩ (s.updPort_untouched p _)
  · cases h; exact s.updPort_untouched p _
  · cases h

end untouched

/-! ## Removals -/

section removals
variable (s : State)

theorem State.removeHeld_storeKept (gone : StoreEntry → Bool) : StoreKept s (s.removeHeld gone) :=
  ⟨List.filter_sublist, .inl rfl, fun _ => .inl rfl⟩

theorem State.removeHeld_metersKept (gone : StoreEntry → Bool) : MetersKept s (s.removeHeld gone) := fun c => by
  rw [State.removeHeld_class]
  exact .ite ⟨rfl, rfl, rfl⟩ (.refl _)

theorem State.abortHeld_storeKept (gone : StoreEntry → Bool) : StoreKept s (s.abortHeld gone) :=
  (s.removeHeld_storeKept gone).trans (.of_eq rfl rfl rfl)

theorem State.abortHeld_metersKept (gone : StoreEntry → Bool) : MetersKept s (s.abortHeld gone) :=
  s.removeHeld_metersKept gone

theorem InFlight.orphaned_record (p : Port) (x : InFlight) : (x.orphaned p).record = x.record := by
  cases x with
  | inFlight r left => by_cases h : r.port = p <;> simp [InFlight.orphaned, h, InFlight.record]
  | _ => rfl

theorem State.cutPort_storeKept (p : Port) : StoreKept s (s.cutPort p) :=
  (s.removeHeld_storeKept (·.port = p)).trans
    ⟨List.Sublist.refl _, .inl rfl, fun d => .inl (by
      simp [State.cutPort, InFlight.orphaned_record])⟩

theorem State.cutPort_metersKept (p : Port) : MetersKept s (s.cutPort p) := s.removeHeld_metersKept (·.port = p)

theorem State.freeIssuing_storeKept : StoreKept s s.freeIssuing := by
  unfold State.freeIssuing
  split
  · exact .of_eq rfl rfl rfl
  · exact ⟨List.Sublist.refl _, .inr rfl, fun _ => .inl rfl⟩

theorem State.freeIssuing_metersKept : MetersKept s s.freeIssuing := by
  unfold State.freeIssuing
  split <;> exact fun c => .refl _

theorem State.clearDownstream_storeKept : StoreKept s s.clearDownstream where
  held := by rw [State.clearDownstream_frame]
  issuing := .inr s.clearDownstream_issuing
  records d := .inr (by rw [s.clearDownstream_cleared.1 d]; rfl)

theorem State.clearDownstream_metersKept : MetersKept s s.clearDownstream := fun c => by
  rw [State.clearDownstream_classes, State.pauseClocks_class]
  exact ⟨rfl, rfl, rfl⟩

theorem State.resetDownstream_storeKept : StoreKept s s.resetDownstream :=
  s.clearDownstream_storeKept.trans (.of_eq rfl rfl rfl)

theorem State.resetDownstream_metersKept : MetersKept s s.resetDownstream := s.clearDownstream_metersKept

theorem State.resetTraffic_storeKept (storeFirst : Bool) : StoreKept s (s.resetTraffic storeFirst) := by
  unfold State.resetTraffic
  split
  · exact (s.abortHeld_storeKept _).trans (State.resetDownstream_storeKept _)
  · exact s.resetDownstream_storeKept.trans (State.abortHeld_storeKept _ _)

theorem State.resetTraffic_metersKept (storeFirst : Bool) : MetersKept s (s.resetTraffic storeFirst) := by
  unfold State.resetTraffic
  split
  · exact (s.abortHeld_metersKept _).trans (State.resetDownstream_metersKept _)
  · exact s.resetDownstream_metersKept.trans (State.abortHeld_metersKept _ _)

/-- An in-flight entry that is replaced by one with its own record or with none. -/
theorem State.putEntry_storeKept (d : DTag) (x : InFlight)
    (hx : x.record = (s.mem.table.get d).record ∨ x.record = none) : StoreKept s (s.updMem (·.putEntry d x)) where
  held := List.Sublist.refl _
  issuing := .inl rfl
  records t := by
    simp only [State.updMem_mem, MemPort.putEntry, Table.get_put]
    split
    · next h => exact h ▸ hx
    · exact .inl rfl

theorem State.freeTag_storeKept (d : DTag) : StoreKept s (s.freeTag d) := s.putEntry_storeKept d .free (.inr rfl)

end removals

/-! ## Ports and the memory link -/

section links
variable (s : State)

/-- A link loss cuts the port off and changes no more of the store and the classes. -/
theorem State.portLinkLost_untouched (p : Port) : Untouched (s.cutPort p) (s.portLinkLost p) := by
  unfold State.portLinkLost
  exact .ite ⟨rfl, rfl, rfl, rfl⟩ ⟨rfl, rfl, rfl, rfl⟩

/-- An effect that only cuts a port off, as far as the store and the classes go. -/
theorem Untouched.move_of_cutPort {s t : State} {p : Port} {i : Instr} (h : Untouched (s.cutPort p) t) :
    Move s i t :=
  .of_kept ((s.cutPort_storeKept p).trans h.storeKept) ((s.cutPort_metersKept p).trans h.metersKept)

/-- RESET_PORT cuts the port off and changes no more of the store and the classes. -/
theorem State.resetPort_untouched {p : Port} {t : State} (h : s.resetPort p = .ok t) : Untouched (s.cutPort p) t := by
  unfold State.resetPort at h
  split at h
  · cases h
  · cases h; exact .ite ⟨rfl, rfl, rfl, rfl⟩ ⟨rfl, rfl, rfl, rfl⟩

/-- A response for an IN_FLIGHT entry frees its tag and changes no more of the store and the classes. -/
theorem State.answerInFlight_untouched (d : DTag) (r : FlightRecord) (k : MemPacket) :
    Untouched (s.freeTag d) (s.answerInFlight d r k) := by
  unfold State.answerInFlight
  exact .ite (State.answer_untouched ..) (.ite ⟨rfl, rfl, rfl, rfl⟩ ⟨rfl, rfl, rfl, rfl⟩)

/-- A response changes no more of the store and the classes than that its tag may become FREE. -/
theorem State.memoryResponse_move (k : MemPacket) (i : Instr) : Move s i (s.memoryResponse k) := by
  have freed : ∀ {t}, Untouched (s.freeTag k.tag) t → Move s i t := fun h =>
    .of_kept ((s.freeTag_storeKept k.tag).trans h.storeKept) h.metersKept
  unfold State.memoryResponse
  split
  · exact freed (s.answerInFlight_untouched _ _ k)
  · exact freed (.refl _)
  · exact freed ⟨rfl, rfl, rfl, rfl⟩
  · exact s.unexpectedResponse_untouched.move

theorem State.memoryPacket_move (k : MemPacket) (i : Instr) : Move s i (s.memoryPacket k) := by
  unfold State.memoryPacket
  split
  · exact s.memoryResponse_move k i
  · exact s.memoryResponse_move k i
  · exact s.memoryResponse_move k i
  · exact (s.memoryCredit_untouched k.count).move
  · exact s.unexpectedResponse_untouched.move

/-- An entry that becomes LATE keeps its record. -/
theorem State.makeLate_storeKept {d : DTag} {r : FlightRecord} (hr : (s.mem.table.get d).record = some r) :
    StoreKept s (s.makeLate d r) :=
  (s.putEntry_storeKept d (.late r) (.inl hr.symm)).trans (State.quarantineCheck_untouched _ _).storeKept

theorem State.makeLate_metersKept (d : DTag) (r : FlightRecord) : MetersKept s (s.makeLate d r) :=
  (State.quarantineCheck_untouched (s.updMem (·.putEntry d (.late r))) _).metersKept

/-- The answer, the count and the cause of the timeout of an IN_FLIGHT entry (R135). -/
theorem State.timeOut_untouched (r : FlightRecord) :
    Untouched s (((s.answer r.port ⟨r.hostTag, .timeout⟩).updMem fun m =>
      { m with timeouts := bump m.timeouts 1 }).raise (.down .timeout)) := ⟨rfl, rfl, rfl, rfl⟩

theorem State.timeOut_move (d : DTag) (i : Instr) : Move s i (s.timeOut d) := by
  unfold State.timeOut
  split
  · next r hd =>
    have h := s.timeOut_untouched r
    exact .of_kept (h.storeKept.trans (State.makeLate_storeKept _ (by rw [h.table, hd]; rfl)))
      (h.metersKept.trans (State.makeLate_metersKept _ d r))
  · next r hd => exact .of_kept (s.makeLate_storeKept (by rw [hd]; rfl)) (s.makeLate_metersKept d r)
  · exact (Untouched.refl s).move

end links

/-! ## Classes -/

section classes
variable {s : State}

/-- A change of one class is that class's move. -/
theorem Move.of_class {c : ClassId} {f : ClassRec → ClassRec} (h : ClassMove s c (f (s.classes.get c))) (i : Instr) :
    Move s i (s.updClass c f) :=
  ⟨.kept (.of_eq rfl rfl rfl), h.put⟩

/-- A change of one class that leaves its budget, allowance and slot alone. -/
theorem Move.of_class_sameMeter {c : ClassId} {f : ClassRec → ClassRec}
    (h : (s.classes.get c).SameMeter (f (s.classes.get c))) (i : Instr) : Move s i (s.updClass c f) :=
  .of_class (.of_sameMeter h) i

/-- A change of every class is each class's move. -/
theorem Move.of_classes {f : ClassId → ClassRec → ClassRec} (h : ∀ c, ClassMove s c (f c (s.classes.get c)))
    (i : Instr) : Move s i (s.updClasses f) :=
  ⟨.kept (.of_eq rfl rfl rfl), fun c => by rw [State.updClasses_classes, Table.get_build]; exact h c⟩

/-- What follows a move outside the store and the classes. -/
theorem Move.trans_untouched {t u : State} {i : Instr} (h : Move s i t) (g : Untouched t u) : Move s i u where
  store := by
    cases h.store with
    | kept h => exact .kept (h.trans g.storeKept)
    | taken packet e he hh hi ht =>
      exact .taken packet e he (g.held.trans hh) (g.issuing.trans hi) (g.table.trans ht)
    | granted e d left he hh hi ht =>
      exact .granted e d left he (g.held ▸ hh) (g.issuing.trans hi) (g.table.trans ht)
  classes c := by rw [g.classes]; exact h.classes c

variable (s)

theorem State.unmark_untouched (c : ClassId) : Untouched s (s.unmark c) := ⟨rfl, rfl, rfl, rfl⟩

theorem State.setWaitLimit_move (c : ClassId) (n : Nat) (i : Instr) : Move s i (s.setWaitLimit c n) := by
  unfold State.setWaitLimit
  split
  · exact (Move.of_class_sameMeter (s := s) ⟨rfl, rfl, rfl⟩ i).trans_untouched (State.unmark_untouched _ c)
  · split <;> exact .of_class_sameMeter ⟨rfl, rfl, rfl⟩ i

theorem State.clearCounter_move (n : CounterId) (i : Instr) : Move s i (s.clearCounter n) := by
  have inClass : ∀ c f, (s.classes.get c).SameMeter (f (s.classes.get c)) → Move s i (s.updClass c f) :=
    fun _ _ h => .of_class_sameMeter h i
  cases n with
  | grants c => exact inClass c (fun k => { k with grants := 0 }) ⟨rfl, rfl, rfl⟩
  | grantedUnits c => exact inClass c (fun k => { k with grantedUnits := 0 }) ⟨rfl, rfl, rfl⟩
  | escapeGrants c => exact inClass c (fun k => { k with escapeGrants := 0 }) ⟨rfl, rfl, rfl⟩
  | classRefusals c => exact inClass c (fun k => { k with classRefusals := 0 }) ⟨rfl, rfl, rfl⟩
  | _ => exact Untouched.move ⟨rfl, rfl, rfl, rfl⟩

theorem State.updClass_metersKept {c : ClassId} {f : ClassRec → ClassRec}
    (h : (s.classes.get c).SameMeter (f (s.classes.get c))) : MetersKept s (s.updClass c f) := fun x => by
  rw [State.updClass_classes, Table.get_put]
  split
  · next hx => exact hx ▸ h
  · exact .refl _

theorem State.refuseInClass_storeKept (reason : RefusalReason) (c : ClassId) :
    StoreKept s (s.refuseInClass reason c) := by
  cases reason <;> exact .of_eq rfl rfl rfl

theorem State.refuseInClass_metersKept (reason : RefusalReason) (c : ClassId) :
    MetersKept s (s.refuseInClass reason c) := by
  have counted : MetersKept s (s.updClass c fun k => { k with classRefusals := bump k.classRefusals 1 }) :=
    s.updClass_metersKept ⟨rfl, rfl, rfl⟩
  cases reason <;> exact counted

theorem State.snapshot_move (classes : Byte) (i : Instr) : Move s i (s.snapshot classes) := by
  unfold State.snapshot
  refine .of_classes (fun c => ?_) i
  split
  · exact ⟨.kept, .inr (.inr rfl)⟩
  · exact .refl s c

theorem boundaryShare_le (a : Nat) : boundaryShare a ≤ a := Nat.sub_le ..

theorem ClassMove.fullRefill (c : ClassId) : ClassMove s c (s.classes.get c).fullRefill :=
  ⟨.refilled _ le_rfl, .inl rfl⟩

theorem ClassMove.atBoundary (c : ClassId) : ClassMove s c (s.classes.get c).atBoundary := by
  unfold ClassRec.atBoundary
  split
  · exact .fullRefill s c
  · exact ⟨.refilled _ (boundaryShare_le _), .inl rfl⟩
  · exact .refl s c

theorem ClassMove.atMidEpoch (c : ClassId) : ClassMove s c (s.classes.get c).atMidEpoch := by
  unfold ClassRec.atMidEpoch
  split
  · exact ⟨.topped _, .inl rfl⟩
  · exact .refl s c

theorem ClassMove.atFrame (c : ClassId) : ClassMove s c (s.classes.get c).atFrame := by
  unfold ClassRec.atFrame
  split
  · exact .fullRefill s c
  · exact .refl s c

/-- TRAFFIC_RESET: the store and the classes move as their parts make them, and each budget is then restored without
debt and each slot freed (R42, R157). -/
theorem State.trafficReset_move (i : Instr) : Move s i s.trafficReset where
  store := .kept ((s.resetTraffic_storeKept _).trans (.of_eq rfl rfl rfl))
  classes c := by
    have h := s.resetTraffic_metersKept (Config.storePartFirst s.freeIndex) c
    simp only [State.trafficReset, State.resetBlocks, State.updArb_classes, State.updEpoch_classes,
      State.updClasses_classes, Table.get_build]
    refine ⟨?_, .inr (.inl rfl)⟩
    simp only [ClassRec.resetMonitor, ClassRec.stopClock, ClassRec.resetBudget, h.allowance]
    exact .entered _

theorem State.atPowerOn_move (b : Bool) (i : Instr) : Move s i (s.atPowerOn b) where
  store := .kept ⟨List.nil_sublist _, .inr rfl, fun d => .inr (by
    simp [State.atPowerOn, State.powerOn, MemPort.powerOn, InFlight.record])⟩
  classes c := by
    simp only [State.atPowerOn, State.powerOn, Table.get_build]
    exact ⟨.poweredOn, .inr (.inl rfl)⟩

end classes

/-! ## A taken request (R102) -/

/-- A request that passes every check is of sound form (R2, R96). -/
theorem State.wellFormed_of_intake {s : State} {p : Port} {kind : ReqKind} {k : HostPacket} {c : ClassId}
    (h : s.intake p kind k = .take c) : k.wellFormed kind = true := by
  unfold State.intake at h
  split at h
  · cases h
  · next hw => simpa using hw

/-- The store entry of a well-formed request is sound (R2): no payload of a sound form passes the 256th byte. -/
theorem storeEntryOf_sound {p : Port} {kind : ReqKind} {packet : List Byte} {c : ClassId}
    (h : (readHostPacket packet).wellFormed kind = true) :
    (storeEntryOf p kind (readHostPacket packet) c).Sound := by
  simp only [HostPacket.wellFormed, Bool.and_eq_true, decide_eq_true_eq, beq_iff_eq] at h
  obtain ⟨⟨⟨-, hl, hu⟩, hp⟩, -⟩ := h
  refine ⟨hl, hu, ?_⟩
  have hle : expectedPayload kind (readHostPacket packet).length ≤ Config.maxPayload := by
    cases kind <;> simp only [expectedPayload, Config.unitBytes, Config.maxPayload] <;> omega
  simp only [storeEntryOf, readHostPacket] at hp hle ⊢
  rw [List.length_take, List.length_drop]
  omega

/-- What a taken request does to the store and to its class: it joins the order of taking, and a class whose queue was
empty restarts its clock (R5, R62). -/
theorem State.takeRequest_move {s : State} {e : StoreEntry} (he : e.Sound) (tag : HostTag) (packet : List Byte) :
    Move s (.arrivalEvent e.port packet) ((s.updPort e.port (·.admitTag tag)).takeRequest e) := by
  unfold State.takeRequest
  rw [State.storeTake_eq]
  refine ⟨.taken packet e he rfl rfl rfl, fun c => ?_⟩
  simp only [State.updPort_classes]
  split
  · exact (ClassMove.of_sameMeter (k := (s.classes.get e.cls).restartClock) ⟨rfl, rfl, rfl⟩).put c
  · exact .refl s c

/-- A refusal stores nothing and leaves every budget and slot alone (R101). -/
theorem State.refuseRequest_move (s : State) (p : Port) (tag : HostTag) (reason : RefusalReason)
    (cls : Option ClassId) (i : Instr) : Move s i ((s.updPort p (·.admitTag tag)).refuseRequest p tag reason cls) := by
  have inClass : ∀ {t} c, Untouched s t → Move s i (t.refuseInClass reason c) := fun c h =>
    .of_kept (h.storeKept.trans (State.refuseInClass_storeKept _ reason c))
      (h.metersKept.trans (State.refuseInClass_metersKept _ reason c))
  cases cls with
  | none => exact Untouched.move ⟨rfl, rfl, rfl, rfl⟩
  | some c => exact inClass c ⟨rfl, rfl, rfl, rfl⟩

/-! ## A grant (R54) -/

/-- What a grant does to the store and to its class: the head of the queue becomes ISSUING under its record, and a
normal grant in a metered mode, whose class had a budget above 0, is charged (R11, R22, R24, R130). -/
theorem State.grant_move {s u : State} (hu : Untouched s u) {c : ClassId} {kind : GrantKind} {e : StoreEntry} {d : DTag}
    (h : u.grantee = some ((c, kind), e, d)) (i : Instr) : Move s i (u.grant c kind e d) := by
  obtain ⟨hc, he, -⟩ := u.grantee_eq_some.mp h
  obtain ⟨before, after, hl, -, -, -⟩ := u.queue_head_split he
  have hmem : e ∈ s.held := by rw [← hu.held, hl]; simp
  have hsub : (u.held.eraseP (·.cls = c)).Sublist s.held := hu.held ▸ List.eraseP_sublist
  have hbudget : BudgetMove s c ((s.classes.get c).granted kind e.length).budget (s.classes.get c).allowance := by
    unfold ClassRec.granted
    dsimp only
    split
    · next hk =>
      obtain ⟨hk, hm⟩ := hk
      have hel := (u.eligible_iff c).mp (u.eligible_of_chooseNormal (u.chooseNormal_of_choose hc hk))
      rw [State.Eligible, hu.classes] at hel
      exact .charged e hmem (hel.2.resolve_left hm)
    · exact .kept
  rw [State.grant_eq]
  refine ⟨.granted e d u.mem.initialTime hmem hsub rfl ?_, ?_⟩
  · exact congrArg (Table.put · d _) hu.table
  · dsimp only
    rw [hu.classes]
    exact ClassMove.put ⟨hbudget, .inl rfl⟩

/-! ## Every command -/

/-- An accepted word stores nothing; RESET_PORT, PURGE_CLASS and TRAFFIC_RESET take entries away. -/
theorem Accepted.move {s t : State} (h : Accepted s t) (i : Instr) : Move s i t := by
  cases h with
  | mode c m => exact .of_class ⟨.entered m, .inr (.inl rfl)⟩ i
  | allowance c n hn => exact .of_class ⟨.lowered n hn, .inl rfl⟩ i
  | tenureLimit c n _ => exact .of_class_sameMeter ⟨rfl, rfl, rfl⟩ i
  | waitLimit c n _ => exact s.setWaitLimit_move c n i
  | admission c b => exact .of_class_sameMeter ⟨rfl, rfl, rfl⟩ i
  | depthLimit c n _ => exact .of_class_sameMeter ⟨rfl, rfl, rfl⟩ i
  | counter n => exact s.clearCounter_move n i
  | openPort p h => exact (s.openPort_untouched h).move
  | closePort p h => exact (s.closePort_untouched h).move
  | resetPort p h => exact (s.resetPort_untouched h).move_of_cutPort
  | resetDownstream => exact .of_kept s.resetDownstream_storeKept s.resetDownstream_metersKept
  | purgeClass c => exact .of_kept (s.abortHeld_storeKept _) (s.abortHeld_metersKept _)
  | reloadClass c => exact .of_class (.fullRefill s c) i
  | snapshot classes => exact s.snapshot_move classes i
  | trafficReset => exact s.trafficReset_move i
  | _ => exact Untouched.move ⟨rfl, rfl, rfl, rfl⟩

/-- What every command can do to the store and to every class. -/
theorem Effect.move {s t : State} {i : Instr} (h : Effect s i t) : Move s i t := by
  cases h with
  | accepted _ h => exact (h.move i).trans_untouched (State.updMgmt_untouched _ _)
  | refused p packet kind reason cls => exact s.refuseRequest_move p _ reason cls _
  | taken p packet kind c _ _ _ hv =>
    exact State.takeRequest_move (storeEntryOf_sound (s.wellFormed_of_intake hv)) _ packet
  | portLinkUp p => exact (s.portLinkUp_untouched p).move
  | portLinkLost p => exact (s.portLinkLost_untouched p).move_of_cutPort
  | responseSendEnd p => exact (s.responseSent_untouched p).move
  | settled => exact s.settleTenure_untouched.move
  | granted c kind e d _ hg => exact State.grant_move s.settleTenure_untouched hg _
  | sendEnd => exact .of_kept s.freeIssuing_storeKept s.freeIssuing_metersKept
  | memoryPacket i packet => exact s.memoryPacket_move _ i
  | memLinkUp n => exact (s.memoryLinkUp_untouched _).move
  | memLinkLost =>
    exact (Move.of_kept s.clearDownstream_storeKept s.clearDownstream_metersKept).trans_untouched
      ⟨rfl, rfl, rfl, rfl⟩
  | entryTimeout d => exact s.timeOut_move d _
  | firstExpiry c =>
    exact (Move.of_class_sameMeter (s := s) (f := fun k => { k.restartClock with strikes := 1 })
      ⟨rfl, rfl, rfl⟩ _).trans_untouched (State.raise_untouched _ _)
  | secondExpiry c =>
    exact (Move.of_class_sameMeter (s := s) (f := fun k => { k with strikes := 2, clock := k.activeWait })
      ⟨rfl, rfl, rfl⟩ _).trans_untouched ⟨rfl, rfl, rfl, rfl⟩
  | epochBoundary =>
    exact (Move.of_classes (ClassMove.atBoundary s) _).trans_untouched ⟨rfl, rfl, rfl, rfl⟩
  | midEpochPoint =>
    exact (Move.of_classes (ClassMove.atMidEpoch s) _).trans_untouched ⟨rfl, rfl, rfl, rfl⟩
  | frameEdge => exact (Move.of_classes (ClassMove.atFrame s) _).trans_untouched ⟨rfl, rfl, rfl, rfl⟩
  | rstAssert => exact (s.atPowerOn_move false _).trans_untouched (State.updPins_untouched _ _)
  | rstRelease b => exact s.atPowerOn_move b _
  | lastAddressBit a => exact (s.takeAddress_untouched a).move
  | csRise => exact ((s.updPins_untouched _).trans (State.closeFrame_untouched _)).move
  | claimCapture g => exact (s.captureAt_untouched _).move
  | claimCompletion g =>
    have h : Untouched s (s.completeClaim g) := ⟨rfl, rfl, rfl, rfl⟩
    exact (h.trans (State.captureAt_untouched _ _)).move
  | snapshotSlotRead c =>
    exact (Move.of_class (s := s) (f := fun k => { k with slot := none })
      ⟨.kept, .inr (.inl rfl)⟩ _).trans_untouched (State.captureAt_untouched _ _)
  | _ => exact Untouched.move ⟨rfl, rfl, rfl, rfl⟩

/-! ## A base tick -/

theorem InFlight.tick_record (x : InFlight) : x.tick.record = x.record := by
  cases x with
  | inFlight r left => cases left <;> rfl
  | orphan r left => cases left <;> rfl
  | _ => rfl

/-- A base tick moves the timers alone (R34, R61, R131): what is stored, every budget and every slot stand. -/
theorem State.tick_move (s : State) (i : Instr) : Move s i s.tick := by
  unfold State.tick
  split
  · have hread := s.readTick_untouched
    refine .of_kept ⟨?_, .inl hread.issuing, fun d => .inl ?_⟩ fun c => ?_
    · exact hread.held ▸ List.Sublist.refl _
    · simp [InFlight.tick_record, hread.table]
    · simp only [State.updMem_classes, State.updEpoch_classes, State.updClasses_classes, Table.get_build,
        hread.classes]
      exact .ite ⟨rfl, rfl, rfl⟩ (.refl _)
  · exact (Untouched.refl s).move

/-- What every step can do to the store and to every class.  A base tick, which is no command, keeps what is stored, and
so is a move under any command's name. -/
theorem move_of_step {s t : State} (h : step s = .next t) : ∃ i rest, Move { s with pending := rest } i t := by
  rcases effect_of_step h with ⟨hp, rfl⟩ | ⟨i, rest, -, he⟩
  · exact ⟨.csFall, s.pending, s.tick_move _⟩
  · exact ⟨i, rest, he.move⟩

/-! ## The order of taking (R4) -/

/-- Settles O55: a command takes HELD entries away, or it is an arrival and adds one at the end. -/
theorem orderOfTakingKept : Obligations.OrderOfTakingKept := by
  intro i s t h
  cases (effect_of_exec h).move.store with
  | kept hs => exact .inl hs.held
  | taken packet e _ hh => exact .inr ⟨e, hh, packet, rfl⟩
  | granted e d left _ hh => exact .inl hh

/-! ## Sound entries and records (R2, R129) -/

theorem StoreMove.storeLaw {s t : State} {i : Instr} (h : StoreMove s i t) (hs : s.StoreLaw) : t.StoreLaw := by
  obtain ⟨held, issuing, records⟩ := hs
  cases h with
  | kept h =>
    refine ⟨fun e he => held e (h.held.subset he), fun e he => ?_, fun d r hr => ?_⟩
    · rcases h.issuing with hi | hi
      · exact issuing e (hi ▸ he)
      · rw [hi] at he; cases he
    · rcases h.records d with hd | hd
      · exact records d r (hd ▸ hr)
      · rw [hd] at hr; cases hr
  | taken packet e he hh hi ht =>
    refine ⟨fun x hx => ?_, hi ▸ issuing, ht ▸ records⟩
    rw [hh, List.mem_append, List.mem_singleton] at hx
    rcases hx with hx | rfl
    · exact held x hx
    · exact he
  | granted e d left he hh hi ht =>
    have sound := held e he
    have ⟨low, high, _⟩ := sound
    refine ⟨fun x hx => held x (hh.subset hx), fun x hx => ?_, fun t r hr => ?_⟩
    · rw [hi] at hx
      cases hx
      exact sound
    · rw [ht, Table.get_put] at hr
      split at hr
      · cases hr
        exact ⟨low, high⟩
      · exact records t r hr

/-! ## Budgets (R21) -/

/-- A refill with its debt stays between -7 and A. -/
theorem refilled_bounds {share a : Nat} {b : Int} (hs : share ≤ a) (hb : -7 ≤ b) :
    -7 ≤ refilled share b ∧ refilled share b ≤ a := by
  unfold refilled
  split <;> omega

theorem entryBudget_bounds (m : Mode) (a : Nat) : -7 ≤ entryBudget m a ∧ entryBudget m a ≤ a := by
  cases m <;> simp only [entryBudget, boundaryShare] <;> omega

/-- Each move of a budget keeps it in its range: a charge is of a request of at most 8 units, to a class with a budget
above 0. -/
theorem BudgetMove.bounds {s : State} {c : ClassId} {b : Int} {a : Nat} (h : BudgetMove s c b a) (hs : s.StoreLaw)
    (hb : s.BudgetLaw) : -7 ≤ b ∧ b ≤ a ∧ a ≤ 65535 := by
  obtain ⟨held, -⟩ := hs
  obtain ⟨lower, upper, allowance⟩ := hb c
  cases h with
  | kept => exact ⟨lower, upper, allowance⟩
  | refilled share hle =>
    obtain ⟨hl, hu⟩ := refilled_bounds hle lower
    exact ⟨hl, hu, allowance⟩
  | topped n => omega
  | entered m =>
    obtain ⟨hl, hu⟩ := entryBudget_bounds m (s.classes.get c).allowance
    exact ⟨hl, hu, allowance⟩
  | lowered n hn => omega
  | charged e he hpos =>
    obtain ⟨-, hlength, -⟩ := held e he
    omega
  | poweredOn => decide

end Sys2Proof.Machine


namespace Sys2Proof.Machine

/-! # How much the store and the queues hold (R1, R115, R117) -/

/-- The entries of a list, counted port by port. -/
theorem length_eq_sum_ports (l : List StoreEntry) :
    l.length = ((List.finRange 4).map fun p => (l.filter (·.port = p)).length).sum := by
  have one : ∀ q : Port, ((List.finRange 4).map fun p => if q = p then 1 else 0).sum = 1 := by decide
  induction l with
  | nil => rfl
  | cons e l ih =>
    have step : ∀ p, ((e :: l).filter (·.port = p)).length
        = (if e.port = p then 1 else 0) + (l.filter (·.port = p)).length := fun p => by
      by_cases h : e.port = p <;> simp [h, Nat.add_comm]
    simp only [step, List.sum_map_add, one, ← ih, List.length_cons, Nat.add_comm]

/-- The store entries of the four ports are the entries of the store (R1, R106). -/
theorem State.storeEntries_sum (s : State) :
    ((List.finRange 4).map s.storeEntries).sum = s.held.length + s.issuing.toList.length := by
  rw [length_eq_sum_ports s.held, length_eq_sum_ports s.issuing.toList, ← List.sum_map_add]
  rfl

/-- No port has more store entries than its credit limit (R112). -/
theorem State.CreditLaw.storeEntries_le {s : State} (h : s.CreditLaw) (p : Port) :
    s.storeEntries p ≤ (s.ports.get p).creditLimit := by
  obtain ⟨⟨low, -⟩, -, -, -, hstate⟩ := h.1 p
  split at hstate <;> omega

/-- The store never holds more than 128 entries (R1, R114). -/
theorem State.CreditLaw.store_le {s : State} (h : s.CreditLaw) :
    s.held.length + s.issuing.toList.length ≤ 128 := by
  rw [← s.storeEntries_sum]
  exact (List.sum_le_sum fun p _ => h.storeEntries_le p).trans h.2

/-- No two of the 32 host tags are one. -/
theorem hostTags_length_le {tags : List HostTag} (h : tags.Nodup) : tags.length ≤ 32 := by
  have hn : (tags.map BitVec.toFin).Nodup := h.map fun _ _ => BitVec.toFin_inj.mp
  simpa using hn.length_le_card

/-- The answers queued at a port are to different outstanding requests (R115). -/
theorem State.AnswerLaw.answered {s : State} (h : s.AnswerLaw) (p : Port) :
    (s.answeredTags p).Nodup ∧ (s.answeredTags p).length ≤ (s.ports.get p).outstanding.length := by
  obtain ⟨hn, hp⟩ := h p
  refine ⟨(hp.nodup_iff.mpr hn).of_append_right, ?_⟩
  rw [← hp.length_eq, List.length_append]
  exact Nat.le_add_left ..

/-- Settles O50: the store entries of each port are within its credit limit and the limits sum to at most 128; the
outstanding tags of a port are different, and each queued answer is to one of them. -/
theorem storeAndQueuesBounded : Obligations.StoreAndQueuesBounded := by
  intro s hc ha
  refine ⟨hc.store_le, fun p => ?_⟩
  obtain ⟨hn, hle⟩ := ha.answered p
  have h32 := hostTags_length_le (ha p).1
  have hq : (s.answeredTags p).length = (s.ports.get p).queue.length := List.length_map ..
  exact ⟨h32, by omega, hn⟩

/-! # Snapshot slots (R154) -/

/-- What a capture holds is in its ranges while the budget, the store and the tenure are in theirs. -/
theorem State.snapshotOf_ranges {s : State} (c : ClassId) (hb : s.BudgetLaw) (hc : s.CreditLaw) (ht : s.TenureLaw) :
    (-7 ≤ (s.snapshotOf c).budget ∧ (s.snapshotOf c).budget ≤ 65535) ∧ (s.snapshotOf c).queueLength ≤ 128
      ∧ (s.snapshotOf c).tenureCount ≤ 16
      ∧ ((s.snapshotOf c).tenureFlag = false → (s.snapshotOf c).tenureCount = 0) := by
  obtain ⟨lower, upper, allowance⟩ := hb c
  have hq : (s.queue c).length ≤ s.held.length := List.length_filter_le ..
  have hstore := hc.store_le
  refine ⟨⟨lower, ?_⟩, ?_, ?_, fun hf => ?_⟩
  · exact upper.trans (by omega)
  · exact hq.trans (by omega)
  · simp only [State.snapshotOf, State.tenureCountOf]
    split
    · next h => exact (ht.2.1 c (by simpa [State.holdsTenure] using h)).2
    · exact Nat.zero_le _
  · have hf : s.holdsTenure c = false := hf
    simp [State.snapshotOf, State.tenureCountOf, hf]

/-- Settles O43: what a step can do to the store and to each class keeps the entries sound, the budgets in their range
and the captures in theirs. -/
theorem budgetLawKept : Obligations.BudgetLawKept := by
  intro s t hs hb h
  obtain ⟨i, rest, hm⟩ := move_of_step h
  refine ⟨hm.store.storeLaw hs, fun c => (hm.classes c).budget.bounds hs hb, fun hc ht hv c v hcv => ?_⟩
  rcases (hm.classes c).slot with h | h | h
  · exact hv c v (h.symm.trans hcv)
  · rw [h] at hcv
    cases hcv
  · rw [h] at hcv
    cases hcv
    exact State.snapshotOf_ranges c hb hc ht

end Sys2Proof.Machine


/-! # The commands of the COMMAND word that take requests away (R14, R109, R139, R165) -/

namespace Sys2Proof.Machine

/-! ## RESET_DOWNSTREAM -/

/-- A downstream reset does steps 2 to 5 of a memory link loss (R139). -/
theorem State.resetDownstream_cleared (s : State) : ClearedDownstream s s.resetDownstream := by
  obtain ⟨table, mem, issuing, ports, classes⟩ := s.clearDownstream_cleared
  refine ⟨table, ?_, issuing, ports, classes⟩
  simp only [State.resetDownstream, State.updMem_mem, s.clearDownstream_mem]

/-- Settles O17: the command is accepted in every state and is `State.resetDownstream`. -/
theorem resetDownstreamClears : Obligations.ResetDownstreamClears := by
  intro s hw
  have cleared := s.resetDownstream_cleared
  have ⟨_, _, issuing, _⟩ := cleared
  have frame := s.resetDownstream_frame
  have hrun : exec .resetDownstream s = .next s.resetDownstream :=
    congrArg Host.Outcome.next (s.writeCommand_accepted hw rfl (by rw [frame]))
  refine ⟨_, hrun, cleared, rfl, rfl, ?_⟩
  rw [issuing]
  exact frame

/-! ## RESET_PORT -/

/-- Port `p` cut off by RESET_PORT, before the CLOSED cause (R109). -/
def State.portReset (s : State) (p : Port) : State :=
  (s.cutPort p).updPort p fun k =>
    { k with linkUp := false, retrain := true, state := (s.ports.get p).state.afterReset }

/-- RESET_PORT away from DISABLED: the port is cut off, and from CLOSING the CLOSED cause is raised (R109). -/
theorem State.resetPort_eq {s : State} {p : Port} (h : (s.ports.get p).state ≠ .disabled) :
    s.resetPort p = .ok (if (s.ports.get p).state = .closing then (s.portReset p).raise (.port p .closed)
      else s.portReset p) := by
  unfold State.resetPort State.portReset
  split
  · next hd => exact absurd hd h
  · rfl

/-- The state of a port after RESET_PORT, in the words of the statements (R109 step 7). -/
theorem PortState.afterReset_eq (st : PortState) :
    st.afterReset = if st = .opened then .waiting else if st = .closing then .closed else st := by
  cases st <;> rfl

theorem State.portReset_cutFrom (s : State) (p : Port) : CutFrom s (s.portReset p) p :=
  cutFrom_of_cutPort rfl rfl rfl rfl fun _ hq => Table.get_put_of_ne _ _ hq.symm

theorem State.portReset_self (s : State) (p : Port) :
    (s.portReset p).ports.get p = { (s.ports.get p).cut with
      linkUp := false
      retrain := true
      state := if (s.ports.get p).state = .opened then .waiting
        else if (s.ports.get p).state = .closing then .closed else (s.ports.get p).state } := by
  rw [State.portReset, State.updPort_ports, Table.get_put_self, State.cutPort_self, PortState.afterReset_eq]

/-- Settles O16: what the command makes of the port is `State.portReset`, with CLOSED raised from CLOSING. -/
theorem resetPortCuts : Obligations.ResetPortCuts := by
  intro arg s hw
  have refused : ∀ r, onPort arg (fun p t => t.resetPort p) s = .error r →
      exec (.resetPort arg) s = .next (s.wordRefused r) := fun r h =>
    congrArg Host.Outcome.next (s.writeCommand_refused hw h)
  have accepted : ∀ t, onPort arg (fun p t => t.resetPort p) s = .ok t → t.mgmt = s.mgmt →
      exec (.resetPort arg) s = .next t := fun t h hm =>
    congrArg Host.Outcome.next (s.writeCommand_accepted hw h hm)
  refine ⟨fun h => refused _ (onPort_of_ge h), fun p hp => ⟨fun hd => refused _ ?_, fun hd => ?_⟩⟩
  · rw [onPort_of_lt hp, State.resetPort, hd]
  · rw [onPort_of_lt hp, State.resetPort_eq hd] at accepted
    by_cases hc : (s.ports.get p).state = .closing
    · rw [if_pos hc] at accepted
      refine ⟨_, accepted _ rfl rfl, s.portReset_cutFrom p, s.portReset_self p, ?_⟩
      rw [if_pos hc]
      rfl
    · rw [if_neg hc] at accepted
      refine ⟨_, accepted _ rfl rfl, s.portReset_cutFrom p, s.portReset_self p, ?_⟩
      rw [if_neg hc]
      rfl

/-! ## PURGE_CLASS -/

/-- Settles O18: the removal of the class's entries is one that the monitor follows, and `State.abortHeld_port` gives the
answers and the credits. -/
theorem purgeClassEmpties : Obligations.PurgeClassEmpties := by
  intro arg s hw
  refine ⟨fun h => congrArg Host.Outcome.next (s.writeCommand_refused hw (onClass_of_ge h)), fun c hc => ?_⟩
  refine ⟨s.purgeClass c, congrArg Host.Outcome.next (s.writeCommand_accepted hw (onClass_of_lt hc) rfl), ?_,
    monitorFollows_of_removal (gone := (·.cls = c)) rfl rfl rfl, s.abortHeld_port _, rfl⟩
  exact List.filter_congr fun e _ => by simp

/-! ## TRAFFIC_RESET -/

/-- Two states agree outside the store, the monitor, the ports and the memory port. -/
def State.SameOutsideTraffic (s t : State) : Prop :=
  t = { s with
    held := t.held, issuing := t.issuing, escapeList := t.escapeList, ports := t.ports, classes := t.classes
    mem := t.mem }

theorem State.SameOutsideTraffic.trans {s t u : State} (h : s.SameOutsideTraffic t) (g : t.SameOutsideTraffic u) :
    s.SameOutsideTraffic u := by
  rw [State.SameOutsideTraffic] at *
  rw [g, h]

theorem State.resetStore_same (s : State) : s.SameOutsideTraffic s.resetStore := rfl

theorem State.resetDownstream_same (s : State) : s.SameOutsideTraffic s.resetDownstream := by
  rw [State.resetDownstream_frame]
  rfl

/-- The two parts of TRAFFIC_RESET that place responses leave everything outside the traffic as it is. -/
theorem State.resetTraffic_same (s : State) (b : Bool) : s.SameOutsideTraffic (s.resetTraffic b) := by
  cases b with
  | true => exact s.resetStore_same.trans s.resetStore.resetDownstream_same
  | false => exact s.resetDownstream_same.trans s.resetDownstream.resetStore_same

theorem State.resetStore_held (s : State) : s.resetStore.held = [] := by
  simp [State.resetStore, State.abortHeld]

/-- The two parts of TRAFFIC_RESET leave no entry behind (R19, R144). -/
theorem State.resetTraffic_empty (s : State) (b : Bool) :
    (s.resetTraffic b).held = [] ∧ (s.resetTraffic b).issuing = none := by
  cases b with
  | true =>
    show s.resetStore.resetDownstream.held = [] ∧ s.resetStore.resetDownstream.issuing = none
    rw [State.resetDownstream_frame]
    exact ⟨s.resetStore_held, rfl⟩
  | false => exact ⟨s.resetDownstream.resetStore_held, s.clearDownstream_issuing⟩

theorem State.resetDownstream_mem (s : State) :
    s.resetDownstream.mem = { s.mem with
      table := .build fun _ => .free, dTx := none, credits := 0, link := .training, retrain := true } := by
  simp only [State.resetDownstream, State.updMem_mem, s.clearDownstream_mem]

/-- The memory port after TRAFFIC_RESET is the same in both orders (R144). -/
theorem State.resetTraffic_mem (s : State) (b : Bool) :
    (s.resetTraffic b).mem = { s.mem with
      table := .build fun _ => .free, dTx := none, credits := 0, link := .training, retrain := true } := by
  cases b with
  | true => exact s.resetStore.resetDownstream_mem
  | false => exact s.resetDownstream_mem

theorem PortRec.given_state (k : PortRec) (n : Nat) : (k.given n).state = k.state := by
  unfold PortRec.given
  split <;> rfl

/-- Answers and credits given by two parts, one after the other. -/
theorem PortRec.given_answers_given (k : PortRec) (l : List Response) (m n : Nat) :
    ({ k.given m with queue := (k.given m).queue ++ l }).given n =
      ({ k with queue := k.queue ++ l }).given (m + n) := by
  unfold PortRec.given
  by_cases h : k.state = .opened <;> simp [h, Nat.add_assoc]

/-- The HELD entries of a port and the ISSUING one are its store entries (R1, R106). -/
theorem State.heldOf_add_issuingOf (s : State) (p : Port) :
    (s.heldOf p fun _ => true).length + s.issuingOf p = s.storeEntries p := by
  simp only [State.heldOf, State.issuingOf, State.storeEntries, Bool.true_and]

theorem State.resetDownstream_port (s : State) (p : Port) :
    s.resetDownstream.ports.get p =
      ({ s.ports.get p with queue := (s.ports.get p).queue ++ s.flightAborts p }).given (s.issuingOf p) :=
  s.clearDownstream_port p

/-- What TRAFFIC_RESET does to each port: the answers of the two parts in their order, and a credit for each of its
store entries (R165, R19, R144). -/
theorem State.resetTraffic_port (s : State) (b : Bool) (p : Port) :
    (s.resetTraffic b).ports.get p =
      ({ s.ports.get p with
        queue := (s.ports.get p).queue ++
          if b = true then s.heldAborts p (fun _ => true) ++ s.flightAborts p
          else s.flightAborts p ++ s.heldAborts p (fun _ => true) }).given (s.storeEntries p) := by
  rw [← s.heldOf_add_issuingOf p]
  cases b with
  | true =>
    show s.resetStore.resetDownstream.ports.get p = _
    have flight : s.resetStore.flightAborts p = s.flightAborts p := rfl
    have issuing : s.resetStore.issuingOf p = s.issuingOf p := rfl
    rw [State.resetDownstream_port, flight, issuing, State.resetStore, State.abortHeld_port,
      PortRec.given_answers_given]
    simp
  | false =>
    show s.resetDownstream.resetStore.ports.get p = _
    have hheld : s.resetDownstream.held = s.held := by rw [s.resetDownstream_frame]
    have held : s.resetDownstream.heldOf p (fun _ => true) = s.heldOf p fun _ => true := by
      rw [State.heldOf, hheld, State.heldOf]
    have state : (s.resetDownstream.ports.get p).state = (s.ports.get p).state := by
      rw [State.resetDownstream_port, PortRec.given_state]
    have aborts : s.resetDownstream.heldAborts p (fun _ => true) = s.heldAborts p fun _ => true := by
      rw [State.heldAborts, state, held, State.heldAborts]
    rw [State.resetStore, State.abortHeld_port, held, aborts, State.resetDownstream_port,
      PortRec.given_answers_given, Nat.add_comm]
    simp

/-- Two records of a class agree on everything but the wait clock and the strikes. -/
def ClassRec.SameButClock (j k : ClassRec) : Prop := k = { j with clock := k.clock, strikes := k.strikes }

theorem ClassRec.SameButClock.trans {i j k : ClassRec} (h : i.SameButClock j) (g : j.SameButClock k) :
    i.SameButClock k := by
  rw [ClassRec.SameButClock] at *
  rw [g, h]

theorem State.abortHeld_clock (s : State) (gone : StoreEntry → Bool) (c : ClassId) :
    (s.classes.get c).SameButClock ((s.abortHeld gone).classes.get c) := by
  show (s.classes.get c).SameButClock ((s.removeHeld gone).classes.get c)
  rw [State.removeHeld_class]
  split <;> rfl

theorem State.resetDownstream_clock (s : State) (c : ClassId) :
    (s.classes.get c).SameButClock (s.resetDownstream.classes.get c) := by
  show (s.classes.get c).SameButClock (s.clearDownstream.classes.get c)
  rw [State.clearDownstream_classes, State.pauseClocks_class]
  rfl

theorem State.resetTraffic_clock (s : State) (b : Bool) (c : ClassId) :
    (s.classes.get c).SameButClock ((s.resetTraffic b).classes.get c) := by
  cases b with
  | true => exact (s.abortHeld_clock _ c).trans (s.resetStore.resetDownstream_clock c)
  | false => exact (s.resetDownstream_clock c).trans (s.resetDownstream.abortHeld_clock _ c)

/-- B as entering a mode sets it, in the words of the statements (R29, R42). -/
theorem entryBudget_eq (m : Mode) (a : Nat) :
    entryBudget m a = if m = .halved then (a : Int) - a / 2 else a := by
  cases m with
  | halved => simp only [entryBudget, boundaryShare, if_true]; omega
  | _ => rfl

/-- What TRAFFIC_RESET does to each class: the budget without debt, the monitor restarted, the slot FREE (R42, R70,
R157). -/
theorem State.trafficReset_class (s : State) (c : ClassId) :
    s.trafficReset.classes.get c = { s.classes.get c with
      budget := if (s.classes.get c).mode = .halved
        then (s.classes.get c).allowance - (s.classes.get c).allowance / 2
        else (s.classes.get c).allowance
      activeWait := (s.classes.get c).writtenWait, clock := 0, strikes := 0, slot := none } := by
  have h := s.resetTraffic_clock (Config.storePartFirst s.freeIndex) c
  simp only [State.trafficReset, State.resetBlocks, State.updArb_classes, State.updEpoch_classes,
    State.updClasses_classes, Table.get_build]
  rw [h]
  simp only [ClassRec.resetMonitor, ClassRec.stopClock, ClassRec.resetBudget, entryBudget_eq]

/-- Settles O23, with the free order of the two answering parts as the witness: each block is given by its lemma on
`State.resetTraffic`. -/
theorem trafficResetClears : Obligations.TrafficResetClears := by
  intro s hw
  have same := s.resetTraffic_same (Config.storePartFirst s.freeIndex)
  have ⟨held, issuing⟩ := s.resetTraffic_empty (Config.storePartFirst s.freeIndex)
  have mem := s.resetTraffic_mem (Config.storePartFirst s.freeIndex)
  have hm : s.trafficReset.mgmt = s.mgmt := (congrArg State.mgmt same :)
  refine ⟨s.trafficReset, Config.storePartFirst s.freeIndex,
    congrArg Host.Outcome.next (s.writeCommand_accepted hw rfl hm), held, issuing, rfl, s.resetTraffic_port _,
    s.trafficReset_class, congrArg (fun t => t.epoch.restart) same,
    congrArg (fun t => { t.arb with holder := none, count := 0 }) same, fun d => ?_, ?_, ?_⟩
  · show (s.resetTraffic _).mem.table.get d = .free
    rw [mem, Table.get_build]
  · rw [show s.trafficReset.mem = _ from mem]
  · exact congrArg (fun t => { s.trafficReset with
      pins := t.pins, flow := t.flow, groups := t.groups, mgmt := t.mgmt, pending := t.pending }) same

end Sys2Proof.Machine


/-! # Single commands of the store (R10, R12, R102) -/

namespace Sys2Proof.Machine

/-- Settles O35: a send in progress is of the ISSUING entry, whose freeing gives the credit. -/
theorem sendEndFreesEntry : Obligations.SendEndFreesEntry := by
  intro s e hr hi
  show Host.Outcome.next (if s.awake && s.issuing.isSome then s.freeIssuing else s) = _
  simp only [State.awake, hr, hi, State.freeIssuing, Bool.not_false, Option.isSome_some, Bool.and_self, if_true]
  rfl

/-- Settles O56: the entry that stands first in the order of taking stands first in every part of it that holds it. -/
theorem earliestHeldIsReady : Obligations.EarliestHeldIsReady := by
  intro s e rest h
  have hq : (s.queue e.cls).head? = some e := by simp [State.queue, h]
  have hc : (s.chain e.port e.stream).head? = some e := by simp [State.chain, h]
  have hr : s.headReady e.cls = true := (s.headReady_iff e.cls).mpr ⟨e, hq, hc⟩
  exact ⟨hq, hc, eq_of_beq hr⟩

/-- A packet that passes every check is taken (R95). -/
theorem State.arrive_of_admittedTo {s : State} {p : Port} {k : HostPacket} {kind : ReqKind} {c : ClassId}
    (hk : s.Admits p k kind) (hv : s.AdmittedTo p kind k c) :
    s.arrive p k = (s.updPort p (·.admitTag k.hostTag)).takeRequest (storeEntryOf p kind k c) := by
  unfold State.arrive
  rw [(s.admits_iff p k kind).mpr hk]
  dsimp only
  rw [State.intake_of_admittedTo hv]

/-- A taken request in one record (R102, R5, R62). -/
theorem State.takeRequest_eq (s : State) (e : StoreEntry) :
    s.takeRequest e = { s with
      held := s.held ++ [e]
      classes := if s.queue e.cls = [] then s.classes.put e.cls (s.classes.get e.cls).restartClock else s.classes
      ports := s.ports.put e.port
        { s.ports.get e.port with requestsTaken := counted (s.ports.get e.port).requestsTaken 1 } } := by
  rw [State.takeRequest, State.storeTake_eq]
  simp only [State.updPort, bump_eq]

/-- Settles O29: the conditions of the manual are the model's checks, and the take is one record. -/
theorem arrivalsTaken : Obligations.ArrivalsTaken := by
  intro p packet s kind c hr hl hk hv
  show Host.Outcome.next (if s.awake && (s.ports.get p).linkUp then s.arrive p (readHostPacket packet) else s) = _
  rw [if_pos (by simp [State.awake, hr, hl]), State.arrive_of_admittedTo hk hv, State.takeRequest_eq]
  simp only [State.updPort, storeEntryOf, PortRec.admitTag, ClassRec.restartClock, State.queue, Table.get_put_self,
    Table.put_put]
  rfl

/-! # Power-on (R20, R41, R58, R70, R84, R105, R123, R143, R157, R166) -/

section powerOn
variable (b : Bool)

@[simp] theorem State.powerOn_port (p : Port) : (State.powerOn b).ports.get p = .powerOn b := Table.get_build ..

@[simp] theorem State.powerOn_class (c : ClassId) : (State.powerOn b).classes.get c = .powerOn c :=
  Table.get_build ..

@[simp] theorem State.powerOn_table (d : DTag) : (State.powerOn b).mem.table.get d = .free := Table.get_build ..

@[simp] theorem State.powerOn_group (g : GroupId) : (State.powerOn b).groups.get g = .powerOn := Table.get_build ..

@[simp] theorem State.powerOn_flow (k : Bank) (i : EntryIdx) :
    ((State.powerOn b).flow.banks.get k).get i = .powerOn := by
  simp [State.powerOn, FlowTable.powerOn]

@[simp] theorem State.powerOn_counter (n : CounterId) : (State.powerOn b).counter n = 0 := by
  cases n <;> simp only [State.counter, State.powerOn_class, State.powerOn_port] <;> rfl

@[simp] theorem State.powerOn_storeEntries (p : Port) : (State.powerOn b).storeEntries p = 0 := rfl

/-- No request is IN_FLIGHT after power-on. -/
theorem State.powerOn_inFlightRecords : (State.powerOn b).mem.inFlightRecords = [] := by
  rw [MemPort.inFlightRecords, List.filterMap_eq_nil_iff]
  intro d _
  rw [State.powerOn_table]

theorem State.powerOn_ringLaw : (State.powerOn b).RingLaw :=
  ⟨(by decide : Arbiter.powerOn.ring.Nodup), (by decide : ∀ c, c ∈ Arbiter.powerOn.ring)⟩

theorem State.powerOn_tenureLaw : (State.powerOn b).TenureLaw := by
  refine ⟨fun _ => rfl, fun c h => (Option.some_ne_none c h.symm).elim, fun c => ?_⟩
  rw [State.powerOn_class]
  exact (by decide : 1 ≤ 4 ∧ 4 ≤ 16)

theorem State.powerOn_storeLaw : (State.powerOn b).StoreLaw := by
  refine ⟨fun e h => (List.not_mem_nil h).elim, fun e h => (Option.not_mem_none e h).elim, fun d r h => ?_⟩
  rw [State.powerOn_table] at h
  cases h

theorem State.powerOn_budgetLaw : (State.powerOn b).BudgetLaw := fun c => by
  rw [State.powerOn_class]
  exact (by decide : -7 ≤ (0 : Int) ∧ (0 : Int) ≤ (0 : Nat) ∧ 0 ≤ 65535)

theorem State.powerOn_slotLaw : (State.powerOn b).SlotLaw := fun c v h => by
  rw [State.powerOn_class] at h
  cases h

theorem State.powerOn_monitorLaw : (State.powerOn b).MonitorLaw := by
  refine ⟨List.nodup_nil, fun c => ?_⟩
  rw [State.powerOn_class]
  exact ⟨⟨fun h => (List.not_mem_nil h).elim, fun h => absurd h (by decide : (0 : Fin 3) ≠ 2)⟩, fun _ => ⟨rfl, rfl⟩,
    fun _ => rfl, Iff.rfl, le_rfl, fun _ _ h => absurd rfl h, Nat.zero_le _, Nat.zero_le _⟩

theorem State.powerOn_memoryLaw : (State.powerOn b).MemoryLaw := by
  refine ⟨(by decide : 0 ≤ 0 ∧ 0 ≤ 32), fun _ => ⟨rfl, rfl, State.powerOn_table b⟩, rfl, fun d n h => ?_, ?_⟩
  · rw [State.powerOn_table] at h
    cases h
  · exact (by decide : (2000 : Nat) ≤ 65535)

theorem State.powerOn_creditLaw : (State.powerOn b).CreditLaw := by
  refine ⟨fun p => ?_, ?_⟩
  · rw [State.powerOn_port, State.powerOn_storeEntries]
    refine ⟨(by decide : 1 ≤ 32 ∧ 32 ≤ 64), le_rfl, fun h => absurd rfl h, fun h => UpTx.noConfusion h, ?_⟩
    cases b <;> exact ⟨rfl, rfl, rfl, Nat.zero_le _⟩
  · simp only [State.powerOn_port]
    exact (by decide : ((List.finRange 4).map fun _ => 32).sum ≤ 128)

theorem State.powerOn_answerLaw : (State.powerOn b).AnswerLaw := fun p => by
  rw [State.flightTags, State.powerOn_inFlightRecords, State.answeredTags, State.powerOn_port]
  exact ⟨List.nodup_nil, .refl _⟩

theorem State.powerOn_frameLaw : (State.powerOn b).FrameLaw :=
  ⟨fun _ => rfl, rfl, fun h => absurd rfl h, fun _ => ⟨fun h => (Option.some_ne_none _ h.symm).elim,
    fun h => FramePhase.noConfusion h.1⟩⟩

theorem State.powerOn_claimLaw : (State.powerOn b).ClaimLaw := fun g => by
  rw [State.powerOn_group]
  exact ⟨BitVec.zero_and, BitVec.zero_and, BitVec.zero_and, fun h => absurd rfl h⟩

theorem State.powerOn_resetLaw : (State.powerOn b).ResetLaw := fun h => nomatch h

theorem State.powerOn_flowLaw : (State.powerOn b).FlowLaw := fun k i h => by
  rw [State.powerOn_flow] at h
  cases h

theorem State.powerOn_settingsLaw : (State.powerOn b).SettingsLaw := by
  refine ⟨(by decide : 1 ≤ 65536 ∧ 65536 ≤ 65536), fun c => ?_, (by decide : 2000 ≤ 65535),
    (by decide : 1 ≤ 8 ∧ 8 ≤ 64)⟩
  rw [State.powerOn_class]
  exact (by decide : 1 ≤ 128 ∧ 128 ≤ 128)

theorem State.powerOn_epochLaw : (State.powerOn b).EpochLaw :=
  (by decide : (4 ≤ 10 ∧ 10 ≤ 20) ∧ (4 ≤ 10 ∧ 10 ≤ 20) ∧ 0 < 2 ^ 10)

theorem State.powerOn_counterLaw : (State.powerOn b).CounterLaw := fun n => by
  rw [State.powerOn_counter]
  exact Nat.zero_le _

end powerOn

/-- Settles O3: each row of a table after power-on is its block's power-on value. -/
theorem powerOnValues : Obligations.PowerOnValues := by
  refine ⟨rfl, fun b => ⟨rfl, rfl, rfl, State.powerOn_port b, State.powerOn_class b, rfl, rfl, State.powerOn_flow b,
    rfl, rfl, State.powerOn_table b, rfl, rfl, rfl, rfl, rfl, rfl, State.powerOn_counter b, State.powerOn_group b, rfl, rfl,
    rfl, rfl, rfl, rfl⟩⟩

/-- Settles O49, law by law. -/
theorem lawsAtPowerOn : Obligations.LawsAtPowerOn := fun b =>
  ⟨State.powerOn_ringLaw b, State.powerOn_tenureLaw b, State.powerOn_storeLaw b, State.powerOn_budgetLaw b,
    State.powerOn_slotLaw b, State.powerOn_monitorLaw b, State.powerOn_memoryLaw b, State.powerOn_creditLaw b,
    State.powerOn_answerLaw b, State.powerOn_frameLaw b, State.powerOn_claimLaw b, State.powerOn_resetLaw b,
    State.powerOn_flowLaw b, State.powerOn_settingsLaw b, State.powerOn_epochLaw b, State.powerOn_counterLaw b⟩

end Sys2Proof.Machine


/-! # GRANT_DECISION (R43, R49 to R55) -/

namespace Sys2Proof.Machine

/-! ## A decision that is due grants -/

/-- Where a class of the ring is a candidate, a class is chosen (R49). -/
theorem State.choose_isSome {s : State} {x : ClassId} (hx : x ∈ s.arb.ring) (h : s.Eligible x ∨ s.Escaping x) :
    s.choose.isSome = true := by
  unfold State.choose State.chooseNormal
  split
  · rfl
  · next hn =>
    split
    · rfl
    · rcases h with h | ⟨hm, hr⟩
      · rw [Option.isSome_map, List.find?_isSome]
        exact ⟨x, hx, (s.eligible_iff x).mpr h⟩
      · exact absurd ((s.headReady_iff x).mpr hr) (List.find?_eq_none.mp hn x hm)

/-- The end of a tenure drops no class from the ring (R45, R52). -/
theorem Arbiter.mem_ended_ring {a : Arbiter} {x : ClassId} (h : x ∈ a.ring) : x ∈ a.ended.ring := by
  unfold Arbiter.ended
  split
  · exact h
  · next holder _ =>
    dsimp only
    split
    · by_cases hx : x = holder <;> simp [hx, h]
    · exact h

theorem Arbiter.ended_holder (a : Arbiter) : a.ended.holder = none := by
  unfold Arbiter.ended
  split
  · next h => exact h
  · rfl

/-- The arbiter on which the choice is made, in the words of the statements (R50, R52). -/
theorem State.settleTenure_arb_iff (s : State) :
    (s.TenureEndsFirst → s.settleTenure.arb = s.arb.ended) ∧ (¬s.TenureEndsFirst → s.settleTenure.arb = s.arb) := by
  rw [State.settleTenure_arb, ← State.tenureStale_iff]
  exact ⟨fun h => if_pos h, fun h => if_neg h⟩

theorem State.settleTenure_mem_ring {s : State} {x : ClassId} (h : x ∈ s.arb.ring) : x ∈ s.settleTenure.arb.ring := by
  rw [State.settleTenure_arb]
  split
  · exact Arbiter.mem_ended_ring h
  · exact h

theorem State.settleTenure_eligible (s : State) (c : ClassId) : s.settleTenure.Eligible c ↔ s.Eligible c := by
  rw [State.settleTenure_frame]
  rfl

theorem State.settleTenure_escaping (s : State) (c : ClassId) : s.settleTenure.Escaping c ↔ s.Escaping c := by
  rw [State.settleTenure_frame]
  rfl

/-- A decision that is due grants a class, its head and the lowest FREE tag (R43, R54). -/
theorem State.grantee_of_decisionDue {s : State} (hd : s.DecisionDue) (hr : s.RingLaw) :
    ∃ c kind e d, s.settleTenure.grantee = some ((c, kind), e, d) := by
  obtain ⟨-, -, -, hfree, -, x, hx⟩ := hd
  have hchoose := State.choose_isSome (State.settleTenure_mem_ring (hr.2 x))
    (hx.imp (s.settleTenure_eligible x).mpr (s.settleTenure_escaping x).mpr)
  obtain ⟨⟨c, kind⟩, hc⟩ := Option.isSome_iff_exists.mp hchoose
  obtain ⟨e, he, -⟩ := State.ready_of_choose hc
  have hlow : s.settleTenure.mem.lowestFree.isSome = true := by
    rw [State.settleTenure_frame]
    exact (s.mem.lowestFree_isSome_iff).mpr hfree
  obtain ⟨d, hdt⟩ := Option.isSome_iff_exists.mp hlow
  exact ⟨c, kind, e, d, State.grantee_eq_some.mpr ⟨hc, he, hdt⟩⟩

theorem exec_grantDecision {s : State} (hd : s.DecisionDue) {c : ClassId} {kind : GrantKind} {e : StoreEntry} {d : DTag}
    (hg : s.settleTenure.grantee = some ((c, kind), e, d)) :
    exec .grantDecision s = .next (s.settleTenure.grant c kind e d) := by
  show Host.Outcome.next s.decide = _
  rw [State.decide, if_pos (s.decisionDue_iff.mpr hd), hg]

/-! ## The tenure -/

/-- A tenure that begins is of a class that held none: the settled tenure of the first eligible class of the ring would
have continued (R49, R52). -/
theorem State.holder_ne_of_begun {s : State} {c : ClassId} (h : s.settleTenure.chooseNormal = some (c, .begun)) :
    s.settleTenure.arb.holder ≠ some c := by
  intro hh
  obtain ⟨hfind, hcont⟩ := State.begins_of_chooseNormal h
  have hstale : s.tenureStale = false := by
    by_contra hs
    rw [Bool.not_eq_false] at hs
    rw [State.settleTenure_arb, if_pos hs, Arbiter.ended_holder] at hh
    cases hh
  have hsettled : s.settleTenure = s := by simp [State.settleTenure, hstale]
  rw [hsettled] at hh hfind hcont
  obtain ⟨heligible, -, habove⟩ := find_first hfind
  have hcount : s.arb.count < (s.classes.get c).tenureLimit := by
    by_contra hle
    have := s.tenureStale_iff.mpr ⟨c, hh, .inr (not_lt.mp hle)⟩
    rw [hstale] at this
    cases this
  have hyes : s.tenureContinues c = true := by
    simp only [State.tenureContinues, heligible, hcount, rankedAbove, Bool.and_eq_true, decide_true, List.all_eq_true,
      Bool.not_eq_true', true_and]
    exact fun x hx => Bool.eq_false_iff.mpr (habove x hx)
  rw [hcont c hh] at hyes
  cases hyes

theorem Arbiter.endAtLimit_eq (a : Arbiter) (limit : Nat) : a.endAtLimit limit = a.endedAt limit := by
  rw [Arbiter.endAtLimit, Arbiter.endedAt, Arbiter.endTenure_eq]

/-- The arbiter's part of a grant, in the words of the statements (R51, R52). -/
theorem Arbiter.afterGrant_eq {a : Arbiter} {c : ClassId} {kind : GrantKind} (limit : Nat)
    (hcontinued : kind = .continued → a.holder = some c) (hbegun : kind = .begun → a.holder ≠ some c) :
    a.afterGrant c kind limit =
      if kind = .escape then a.ended
      else if a.holder = some c then ({ a with count := a.count + 1 } : Arbiter).endedAt limit
      else ({ a.ended with holder := some c, count := 1 } : Arbiter).endedAt limit := by
  cases kind with
  | escape => exact a.endTenure_eq
  | continued =>
    rw [if_neg (by decide), if_pos (hcontinued rfl)]
    exact Arbiter.endAtLimit_eq ..
  | begun =>
    rw [if_neg (by decide), if_neg (hbegun rfl), Arbiter.afterGrant, Arbiter.endTenure_eq]
    exact Arbiter.endAtLimit_eq ..

/-! ## The whole grant -/

/-- A class after a grant, in the words of the statements (R24, R25, R65 to R67, R152). -/
theorem ClassRec.granted_eq (k : ClassRec) (kind : GrantKind) (n : Nat) :
    k.granted kind n = { k with
      budget := if decide (kind = .escape) = false ∧ k.mode ≠ .unmetered then k.budget - n else k.budget
      strikes := 0
      clock := 0
      activeWait := k.writtenWait
      grants := counted k.grants 1
      grantedUnits := counted k.grantedUnits n
      escapeGrants := if decide (kind = .escape) = true then counted k.escapeGrants 1 else k.escapeGrants } := by
  simp only [ClassRec.granted, bump_eq, decide_eq_true_eq, decide_eq_false_iff_not, ne_eq]

/-- The causes of a grant on a settled tenure, in the words of the statements (R26, R65). -/
theorem State.withGrantCause_groups (s : State) (a : Arbiter) (c : ClassId) (kind : GrantKind) (n : Nat) :
    (({ s with arb := a } : State).withGrantCause c kind n).groups =
      (if Decidable.decide (kind = .escape) = true then s.withCause (classGroup c) 2
        else if (s.classes.get c).mode = .hold ∧ 0 < (s.classes.get c).budget
          ∧ (s.classes.get c).budget - n ≤ 0 then s.withCause (classGroup c) 0 else s).groups := by
  simp only [State.withGrantCause, decide_eq_true_eq, ClassRec.spends_iff]
  split_ifs <;> rfl

/-- Settles O34: a decision that is due grants the class it chooses, and each block then holds what `State.grant_eq`
gives for it. -/
theorem grantsReachEveryBlock : Obligations.GrantsReachEveryBlock := by
  intro s hd hr
  obtain ⟨c, kind, e, d, hg⟩ := State.grantee_of_decisionDue hd hr
  have hrun := exec_grantDecision hd hg
  obtain ⟨hc, he, hfree⟩ := State.grantee_eq_some.mp hg
  have hbegun : kind = .begun → s.settleTenure.arb.holder ≠ some c := by
    rintro rfl
    exact State.holder_ne_of_begun (State.chooseNormal_of_choose hc (by decide))
  have hcontinued : kind = .continued → s.settleTenure.arb.holder = some c := by
    rintro rfl
    exact (State.continues_of_chooseNormal (State.chooseNormal_of_choose hc (by decide))).1
  have hescape : kind = .escape ↔ ∃ x, s.Escaping x := by
    constructor
    · rintro rfl
      exact ⟨c, (s.settleTenure_escaping c).mp (State.escaping_of_choose hc)⟩
    · rintro ⟨x, hx⟩
      by_contra hk
      exact State.not_escaping_of_choose hc hk x ((s.settleTenure_escaping x).mpr hx)
  have harb := Arbiter.afterGrant_eq (s.classes.get c).tenureLimit hcontinued hbegun
  obtain ⟨before, after, hl, hcls, hbefore, hheld⟩ := State.queue_head_split he
  obtain ⟨hends, hstands⟩ := s.settleTenure_arb_iff
  rw [State.grant_eq, State.settleTenure_frame] at hrun
  rw [State.settleTenure_frame] at hl hheld hfree
  obtain ⟨htag, hlower⟩ := MemPort.lowestFree_eq_some hfree
  refine ⟨_, c, e, d, decide (kind = .escape), hrun, decide_eq_true_iff.trans hescape,
    ⟨before, after, hl, hcls, hbefore, hheld⟩, rfl, htag, hlower, rfl,
    fun x hx => Table.get_put_of_ne _ _ hx.symm, (Table.get_put_self ..).trans (ClassRec.granted_eq ..), rfl,
    s.withGrantCause_groups _ c kind e.length,
    ⟨_, hends, hstands, ?_⟩, rfl⟩
  simpa only [decide_eq_true_eq] using harb

end Sys2Proof.Machine


/-! # Budgets, refills and the epoch timer (R27 to R39) -/

namespace Sys2Proof.Machine

/-! ## Words that configure the budget unit -/

/-- The code of a mode names it (R169). -/
theorem modeOfCode_code (m : Mode) : modeOfCode m.code = some m := by cases m <;> rfl

/-- A code above those of the five modes names none (R169). -/
theorem modeOfCode_of_ge {n : Nat} (h : 5 ≤ n) : modeOfCode n = none := by
  obtain ⟨k, rfl⟩ := Nat.exists_eq_add_of_le' h
  rfl

/-- B lowered to a new A if above it, in the words of the statements (R31). -/
theorem min_budget_eq (b : Int) (n : Nat) : min b n = if (n : Int) < b then (n : Int) else b := by
  split <;> omega

/-- Settles O6: the owner's part of each word is the record that the statement gives, or BAD_VALUE. -/
theorem budgetWordWrites : Obligations.BudgetWordWrites := by
  intro c w s
  have next : ∀ {t u : State}, t = u → Host.Outcome.next (φ := Fault) (ρ := Refusal) t = .next u := congrArg _
  refine ⟨fun hw => ⟨fun m hm => next ?_, fun hm => next ?_⟩, fun hw => ⟨fun hn => next ?_, fun hn => next ?_⟩⟩
  · refine s.writeWord_accepted (w := .mode c) hw nofun ?_ rfl
    rw [ownMode, hm, modeOfCode_code]
    simp only [entryBudget_eq]
    rfl
  · refine s.writeWord_refused (w := .mode c) hw nofun ?_
    rw [ownMode, modeOfCode_of_ge hm]
  · refine s.writeWord_accepted (w := .allowance c) hw nofun ?_ rfl
    rw [ownAllowance, accept, if_pos (decide_eq_true hn)]
    simp only [min_budget_eq]
    rfl
  · refine s.writeWord_refused (w := .allowance c) hw nofun ?_
    rw [ownAllowance, accept, if_neg (by simpa using hn)]

/-- Settles O9: the word is accepted where its exponent is 4 to 20. -/
theorem deviceConfigWrites : Obligations.DeviceConfigWrites := by
  intro w s hw
  have hn : bitsOf w.toNat 0 5 = w.toNat % 32 := by simp [bitsOf]
  refine congrArg Host.Outcome.next ?_
  split
  · next h =>
    refine s.writeWord_accepted (w := .deviceConfig) hw nofun ?_ rfl
    rw [ownDeviceConfig, hn, accept, if_pos (by simpa using h)]
    rfl
  · next h =>
    refine s.writeWord_refused (w := .deviceConfig) hw nofun ?_
    rw [ownDeviceConfig, hn, accept, if_neg (by simpa using h)]


/-! ## Refills (R27 to R29) -/

/-- A class at an epoch boundary, by its mode (R28, R35). -/
theorem ClassRec.atBoundary_eq (k : ClassRec) :
    k.atBoundary = { k with
      budget := if k.mode = .periodic then refilled k.allowance k.budget
        else if k.mode = .halved then refilled (k.allowance - k.allowance / 2) k.budget
        else k.budget } := by
  rcases k with ⟨m⟩
  cases m <;> rfl

/-- A class at the mid-epoch point: a HALVED one gains half of A, up to A (R29, R36). -/
theorem ClassRec.atMidEpoch_eq (k : ClassRec) :
    k.atMidEpoch = { k with
      budget := if k.mode = .halved then
          (if k.budget + (k.allowance / 2 : Nat) ≤ k.allowance
          then k.budget + (k.allowance / 2 : Nat) else k.allowance)
        else k.budget } := by
  simp only [← min_def]
  rcases k with ⟨m⟩
  cases m <;> rfl

/-- A class at a rising edge of FRAME, by its mode (R28, R39). -/
theorem ClassRec.atFrame_eq (k : ClassRec) :
    k.atFrame = { k with
      budget := if k.mode = .triggered then refilled k.allowance k.budget else k.budget } := by
  rcases k with ⟨m⟩
  cases m <;> rfl

/-! ## Refill events -/

theorem EpochTimer.atEnd_iff (e : EpochTimer) : e.atEnd = true ↔ 2 ^ e.activeExp ≤ e.time + 1 := decide_eq_true_iff

theorem EpochTimer.atMid_iff (e : EpochTimer) : e.atMid = true ↔ e.time + 1 = 2 ^ (e.activeExp - 1) :=
  decide_eq_true_iff

section events
variable {s : State} (hr : s.pins.rstLow = false)
include hr

/-- A boundary comes at the end of the epoch alone (R34, R35). -/
theorem exec_epochBoundary :
    exec .epochBoundary s = .next (if 2 ^ s.epoch.activeExp ≤ s.epoch.time + 1 then s.epochBoundary else s) := by
  show Host.Outcome.next (if s.awake && s.epoch.atEnd then s.epochBoundary else s) = _
  simp only [State.awake, hr, Bool.not_false, Bool.true_and, EpochTimer.atEnd_iff]

/-- A mid-epoch point comes at the middle of the epoch alone (R34, R36). -/
theorem exec_midEpochPoint :
    exec .midEpochPoint s =
      .next (if s.epoch.time + 1 = 2 ^ (s.epoch.activeExp - 1) then s.midEpochPoint else s) := by
  show Host.Outcome.next (if s.awake && s.epoch.atMid then s.midEpochPoint else s) = _
  simp only [State.awake, hr, Bool.not_false, Bool.true_and, EpochTimer.atMid_iff]

theorem exec_frameEdge : exec .frameEdge s = .next s.frameEdge := by
  show Host.Outcome.next (if s.awake then s.frameEdge else s) = _
  simp only [State.awake, hr, Bool.not_false, if_true]

end events

/-! What each event does to a class. -/

theorem State.epochBoundary_class (s : State) (c : ClassId) :
    s.epochBoundary.classes.get c = (s.classes.get c).atBoundary := Table.get_build ..

theorem State.midEpochPoint_class (s : State) (c : ClassId) :
    s.midEpochPoint.classes.get c = (s.classes.get c).atMidEpoch := Table.get_build ..

theorem State.frameEdge_class (s : State) (c : ClassId) :
    s.frameEdge.classes.get c = (s.classes.get c).atFrame := Table.get_build ..

/-- Settles O41: each event is its record where it comes, and the refill of a class is its mode's. -/
theorem refillEvents : Obligations.RefillEvents := by
  intro s hr
  have boundary := exec_epochBoundary hr
  have mid := exec_midEpochPoint hr
  refine ⟨fun h => ?_, fun h => ?_, fun h => ?_, fun h => ?_, ?_⟩
  · rw [if_pos h] at boundary
    exact ⟨_, boundary, rfl, fun c => (s.epochBoundary_class c).trans (ClassRec.atBoundary_eq _)⟩
  · rwa [if_neg (by omega)] at boundary
  · rwa [if_neg h] at mid
  · rw [if_pos h] at mid
    exact ⟨_, mid, rfl, fun c => (s.midEpochPoint_class c).trans (ClassRec.atMidEpoch_eq _)⟩
  · exact ⟨_, exec_frameEdge hr, rfl, fun c => (s.frameEdge_class c).trans (ClassRec.atFrame_eq _)⟩

/-- Settles O19: RELOAD_CLASS is a full refill, and the mid-epoch point that comes next finds what it left. -/
theorem reloadClassRefills : Obligations.ReloadClassRefills := by
  intro arg s hw
  refine ⟨fun h => congrArg Host.Outcome.next (s.writeCommand_refused hw (onClass_of_ge h)), fun c hc => ?_⟩
  refine ⟨congrArg Host.Outcome.next (s.writeCommand_accepted hw (onClass_of_lt hc) rfl), fun hm ht => ?_⟩
  refine ⟨_, (exec_midEpochPoint (s := s.withClass c _) hw.1).trans (congrArg _ (if_pos ht)), ?_⟩
  rw [State.midEpochPoint_class, State.withClass, Table.get_put_self, ClassRec.atMidEpoch_eq]
  exact if_pos hm

end Sys2Proof.Machine


/-! # The base tick (R34, R61, R131, R160) -/

namespace Sys2Proof.Machine

/-! ## The timers -/

/-- The epoch time alone moves at a tick; it stays one short of the two points of the epoch (R34). -/
theorem EpochTimer.tick_eq (e : EpochTimer) :
    e.tick = { e with time :=
      if e.time + 1 = 2 ^ (e.activeExp - 1) ∨ 2 ^ e.activeExp ≤ e.time + 1 then e.time else e.time + 1 } := by
  simp only [EpochTimer.tick, Bool.or_eq_true, EpochTimer.atMid_iff, EpochTimer.atEnd_iff]
  split <;> rfl

/-- The wait clock alone moves at a tick, and only where it is RUNNING below its limit (R61). -/
theorem State.tickClass_eq (s : State) (c : ClassId) (k : ClassRec) :
    s.tickClass c k = { k with
      clock := if s.Runs c ∧ k.clock < k.activeWait then k.clock + 1 else k.clock } := by
  simp only [State.tickClass, State.clockCondition_iff]
  split <;> rfl

/-- A tick moves a READ frame's address and captured word alone. -/
theorem State.readTick_frame (s : State) :
    s.readTick = { s with mgmt := { s.mgmt with
      address := s.readTick.mgmt.address, readWord := s.readTick.mgmt.readWord } } := by
  by_cases he : s.wordEnds = true
  · by_cases h : ∃ i, s.WordEndsWith i
    · rw [State.readTick_off (.inr h)]
    · rw [State.readTick_on he (not_exists.mp h)]
  · rw [State.readTick_off (.inl (Bool.eq_false_iff.mpr he))]

theorem State.wordEnds_iff (s : State) :
    s.wordEnds = true ↔ s.mgmt.phase = .reading ∧ Config.wordEnds s.freeIndex = true := by
  rw [State.wordEnds, Bool.and_eq_true, beq_iff_eq]

/-- A tick of a part that is out of reset. -/
theorem State.tick_of_awake {s : State} (hr : s.pins.rstLow = false) :
    s.tick = { s.readTick with
      classes := .build fun c => s.tickClass c (s.classes.get c)
      epoch := s.epoch.tick
      mem := { s.mem with table := .build fun d => (s.mem.table.get d).tick }
      freeIndex := s.freeIndex + 1
      pending := orderDue s.freeIndex s.due } := by
  rw [State.tick, if_pos (by simp [State.awake, hr]), State.readTick_frame]
  rfl

/-! ## The events that fall due -/

theorem EpochTimer.mem_due {e : EpochTimer} {i : Instr} :
    i ∈ e.due ↔ (i = .epochBoundary ∧ 2 ^ e.activeExp ≤ e.time + 1)
      ∨ (i = .midEpochPoint ∧ e.time + 1 = 2 ^ (e.activeExp - 1) ∧ e.time + 1 < 2 ^ e.activeExp) := by
  rw [← e.atEnd_iff, ← e.atMid_iff, ← not_le, ← e.atEnd_iff, EpochTimer.due]
  cases e.atEnd <;> cases e.atMid <;> simp

theorem State.waitDue_iff (s : State) (c : ClassId) :
    s.waitDue c = true ↔ s.Runs c ∧ (s.classes.get c).activeWait ≤ (s.classes.get c).clock + 1 := by
  rw [State.waitDue, Bool.and_eq_true, beq_iff_eq, decide_eq_true_eq, State.clockCondition_iff]

theorem InFlight.timeDue_iff (x : InFlight) : x.timeDue = true ↔ ∃ n, x.remaining = some n ∧ n ≤ 1 := by
  unfold InFlight.timeDue
  cases x.remaining <;> simp

theorem State.mem_readDue {s : State} {i : Instr} :
    i ∈ s.readDue ↔ (s.mgmt.phase = .reading ∧ Config.wordEnds s.freeIndex = true) ∧ s.WordEndsWith i := by
  rw [← s.wordEnds_iff, ← s.wordEndEvent_iff, State.readDue]
  split
  · next h => simp [h]
  · next h => simp [h]

/-- The events that a tick brings due, in the words of the statements. -/
theorem State.mem_due {s : State} {i : Instr} :
    i ∈ s.due ↔ (i = .epochBoundary ∧ 2 ^ s.epoch.activeExp ≤ s.epoch.time + 1)
      ∨ (i = .midEpochPoint ∧ s.epoch.time + 1 = 2 ^ (s.epoch.activeExp - 1)
        ∧ s.epoch.time + 1 < 2 ^ s.epoch.activeExp)
      ∨ (∃ c, i = .waitClockExpiry c ∧ s.Runs c ∧ (s.classes.get c).activeWait ≤ (s.classes.get c).clock + 1)
      ∨ (∃ d n, i = .entryTimeout d ∧ (s.mem.table.get d).remaining = some n ∧ n ≤ 1)
      ∨ ((s.mgmt.phase = .reading ∧ Config.wordEnds s.freeIndex = true) ∧ s.WordEndsWith i) := by
  simp only [State.due, List.mem_append, EpochTimer.mem_due, List.mem_map, List.mem_filter, List.mem_finRange, true_and,
    State.waitDue_iff, InFlight.timeDue_iff, State.mem_readDue, or_assoc, exists_and_left, eq_comm (b := i),
    and_comm (b := i = _)]

/-! Events of different timers have different numbers, so no event falls due twice. -/

theorem EpochTimer.dueCode_lt {e : EpochTimer} {i : Instr} (h : i ∈ e.due) : dueCode i < 2 := by
  rcases EpochTimer.mem_due.mp h with ⟨rfl, -⟩ | ⟨rfl, -⟩ <;> decide

theorem State.dueCode_of_mem_readDue {s : State} {i : Instr} (h : i ∈ s.readDue) : dueCode i = 74 := by
  obtain ⟨-, ⟨rfl, -⟩ | ⟨-, ⟨c, rfl, -⟩ | ⟨g, rfl, -⟩⟩⟩ := State.mem_readDue.mp h <;> rfl

theorem EpochTimer.due_nodup (e : EpochTimer) : e.due.Nodup := by
  unfold EpochTimer.due
  split
  · exact List.nodup_singleton _
  · split
    · exact List.nodup_singleton _
    · exact List.nodup_nil

theorem State.readDue_nodup (s : State) : s.readDue.Nodup := by
  unfold State.readDue
  split
  · cases s.wordEndEvent with
    | none => exact List.nodup_nil
    | some i => exact List.nodup_singleton i
  · exact List.nodup_nil

theorem nodup_append_of_dueCode {l r : List Instr} (m : Nat) (hl : l.Nodup) (hr : r.Nodup)
    (low : ∀ i ∈ l, dueCode i < m) (high : ∀ j ∈ r, m ≤ dueCode j) : (l ++ r).Nodup := by
  refine List.nodup_append.mpr ⟨hl, hr, fun i hi j hj hij => ?_⟩
  have := low i hi
  have := high j hj
  rw [hij] at *
  omega

theorem State.due_nodup (s : State) : s.due.Nodup := by
  have waits : (((List.finRange 8).filter s.waitDue).map Instr.waitClockExpiry).Nodup :=
    ((List.nodup_finRange 8).filter _).map fun _ _ h => Instr.waitClockExpiry.inj h
  have timeouts :
      (((List.finRange 64).filter fun t => (s.mem.table.get t).timeDue).map Instr.entryTimeout).Nodup :=
    ((List.nodup_finRange 64).filter _).map fun _ _ h => Instr.entryTimeout.inj h
  have epoch_code : ∀ i ∈ s.epoch.due, dueCode i < 2 := fun _ => EpochTimer.dueCode_lt
  have wait_code : ∀ c : ClassId, dueCode (.waitClockExpiry c) = 2 + c.val := fun _ => rfl
  have timeout_code : ∀ d : DTag, dueCode (.entryTimeout d) = 10 + d.val := fun _ => rfl
  have upToWaits := nodup_append_of_dueCode 2 s.epoch.due_nodup waits epoch_code
    (List.forall_mem_map.mpr fun c _ => by rw [wait_code]; omega)
  have wait_lt : ∀ i ∈ s.epoch.due ++ ((List.finRange 8).filter s.waitDue).map Instr.waitClockExpiry, dueCode i < 10 :=
    List.forall_mem_append.mpr ⟨fun i hi => (epoch_code i hi).trans (by decide),
      List.forall_mem_map.mpr fun c _ => by rw [wait_code]; omega⟩
  have upToTimeouts := nodup_append_of_dueCode 10 upToWaits timeouts wait_lt
    (List.forall_mem_map.mpr fun d _ => by rw [timeout_code]; omega)
  refine nodup_append_of_dueCode 74 upToTimeouts s.readDue_nodup (List.forall_mem_append.mpr
    ⟨fun i hi => (wait_lt i hi).trans (by decide), List.forall_mem_map.mpr fun d _ => by rw [timeout_code]; omega⟩)
    fun j hj => (State.dueCode_of_mem_readDue hj).ge

/-! The order that the free ranks give loses no event and adds none. -/

theorem insertDue_perm (draw : Nat) (i : Instr) (l : List Instr) : (insertDue draw i l).Perm (i :: l) := by
  induction l with
  | nil => exact .refl _
  | cons j rest ih =>
    unfold insertDue
    split
    · exact .refl _
    · exact (ih.cons j).trans (.swap i j rest)

theorem orderDue_perm (draw : Nat) (l : List Instr) : (orderDue draw l).Perm l := by
  induction l with
  | nil => exact .refl _
  | cons i rest ih => exact (insertDue_perm draw i _).trans (ih.cons i)

/-- Settles O5: the tick in one record, and the queue it leaves is an order of the events that are due. -/
theorem tickMovesTimers : Obligations.TickMovesTimers := by
  intro s hp hr
  have tick := State.tick_of_awake hr
  have frame := s.readTick_frame
  have order := orderDue_perm s.freeIndex s.due
  have wordEnds := s.wordEnds_iff
  refine ⟨s.tick, by rw [step, hp], ?_⟩
  rw [tick]
  refine ⟨?_, fun c => (Table.get_build ..).trans (s.tickClass_eq c _), congrArg EpochTimer.time s.epoch.tick_eq,
    fun d => Table.get_build .., fun he hn => ?_, fun h => ?_, order.nodup_iff.mpr s.due_nodup,
    fun i => order.mem_iff.trans State.mem_due⟩
  · rw [frame, s.epoch.tick_eq]
  · rw [State.readTick_on (wordEnds.mpr he) hn]
    exact ⟨rfl, rfl⟩
  · rw [State.readTick_off (h.imp_left fun h => Bool.eq_false_iff.mpr (mt wordEnds.mp h))]

end Sys2Proof.Machine


/-! # Settings, flow entries, the epoch timer and the counters in their ranges (R34, R87, R97, R100, R131, R136, R152)

The four laws are one condition on each block's record, so that an effect keeps them when it keeps the condition of
each record it writes. -/

namespace Sys2Proof.Machine

/-! ## The laws, block by block -/

/-- A class's depth limit (R100) and its counters (R152). -/
def ClassRec.InRange (k : ClassRec) : Prop :=
  (1 ≤ k.depthLimit ∧ k.depthLimit ≤ 128) ∧ k.grants ≤ 4294967295 ∧ k.grantedUnits ≤ 4294967295
    ∧ k.escapeGrants ≤ 4294967295 ∧ k.classRefusals ≤ 4294967295

/-- A port's counters (R152). -/
def PortRec.InRange (k : PortRec) : Prop :=
  k.requestsTaken ≤ 4294967295 ∧ k.requestsRefused ≤ 4294967295 ∧ k.protocolFaults ≤ 4294967295

/-- The memory port's settings (R131, R136) and its counters (R152). -/
def MemPort.InRange (m : MemPort) : Prop :=
  (m.timeout ≤ 65535 ∧ 1 ≤ m.quarantineLevel ∧ m.quarantineLevel ≤ 64) ∧ m.timeouts ≤ 4294967295
    ∧ m.lateDiscarded ≤ 4294967295 ∧ m.unexpectedResponses ≤ 4294967295 ∧ m.memoryErrors ≤ 4294967295

/-- The memory limit (R97) and the entries of both banks (R87). -/
def FlowTable.InRange (f : FlowTable) : Prop :=
  (1 ≤ f.memLimit ∧ f.memLimit ≤ 65536) ∧ ∀ b i, ((f.banks.get b).get i).consistent = true

/-- The epoch timer (R34). -/
def EpochTimer.InRange (e : EpochTimer) : Prop :=
  (4 ≤ e.activeExp ∧ e.activeExp ≤ 20) ∧ (4 ≤ e.writtenExp ∧ e.writtenExp ≤ 20) ∧ e.time < 2 ^ e.activeExp

/-- Every block's record is in range. -/
structure State.InRange (s : State) : Prop where
  classes : ∀ c, (s.classes.get c).InRange
  ports : ∀ p, (s.ports.get p).InRange
  mem : s.mem.InRange
  flow : s.flow.InRange
  epoch : s.epoch.InRange

theorem FlowEntry.consistent_iff (e : FlowEntry) :
    e.consistent = true ↔ (e.valid = true → e.streamLow.toNat ≤ e.streamHigh.toNat
      ∧ (e.windowPresent = true → e.base.toNat ≤ e.limit.toNat)) := by
  unfold FlowEntry.consistent
  cases e.valid <;> cases e.windowPresent <;> simp

/-- The four laws together are the conditions of the blocks. -/
theorem State.inRange_iff (s : State) :
    s.InRange ↔ s.FlowLaw ∧ s.SettingsLaw ∧ s.EpochLaw ∧ s.CounterLaw := by
  constructor
  · intro h
    obtain ⟨memLimit, entries⟩ := h.flow
    obtain ⟨⟨timeout, level⟩, timeouts, late, unexpected, errors⟩ := h.mem
    refine ⟨fun b i => (FlowEntry.consistent_iff _).mp (entries b i),
      ⟨memLimit, fun c => (h.classes c).1, timeout, level⟩, h.epoch, fun n => ?_⟩
    cases n with
    | grants c => obtain ⟨-, hn, -⟩ := h.classes c; exact hn
    | grantedUnits c => obtain ⟨-, -, hn, -⟩ := h.classes c; exact hn
    | escapeGrants c => obtain ⟨-, -, -, hn, -⟩ := h.classes c; exact hn
    | classRefusals c => obtain ⟨-, -, -, -, hn⟩ := h.classes c; exact hn
    | requestsTaken p => obtain ⟨hn, -⟩ := h.ports p; exact hn
    | requestsRefused p => obtain ⟨-, hn, -⟩ := h.ports p; exact hn
    | protocolFaults p => obtain ⟨-, -, hn⟩ := h.ports p; exact hn
    | timeouts => exact timeouts
    | lateDiscarded => exact late
    | unexpectedResponses => exact unexpected
    | memoryErrors => exact errors
  · rintro ⟨flow, ⟨memLimit, depth, timeout, level⟩, epoch, counter⟩
    exact {
      classes := fun c => ⟨depth c, counter (.grants c), counter (.grantedUnits c), counter (.escapeGrants c),
        counter (.classRefusals c)⟩
      ports := fun p => ⟨counter (.requestsTaken p), counter (.requestsRefused p), counter (.protocolFaults p)⟩
      mem := ⟨⟨timeout, level⟩, counter .timeouts, counter .lateDiscarded, counter .unexpectedResponses,
        counter .memoryErrors⟩
      flow := ⟨memLimit, fun b i => (FlowEntry.consistent_iff _).mpr (flow b i)⟩
      epoch := epoch }

/-! ## Updates of one block -/

/-- A row put into a table all of whose rows have a property. -/
theorem forall_get_put {n : Nat} {α : Type} {P : α → Prop} {t : Table n α} {i : Fin n} {a : α} (h : ∀ j, P (t.get j))
    (ha : P a) (j : Fin n) : P ((t.put i a).get j) := by
  rw [Table.get_put]
  split
  · exact ha
  · exact h j

theorem bump_le (n k : Nat) : bump n k ≤ 4294967295 := Nat.min_le_right ..

namespace State.InRange
variable {s t : State} (h : s.InRange)
include h

theorem updClass {c : ClassId} {f : ClassRec → ClassRec} (hf : (f (s.classes.get c)).InRange) :
    (s.updClass c f).InRange := ⟨forall_get_put h.classes hf, h.ports, h.mem, h.flow, h.epoch⟩

theorem updClasses {f : ClassId → ClassRec → ClassRec} (hf : ∀ c, (f c (s.classes.get c)).InRange) :
    (s.updClasses f).InRange :=
  ⟨fun c => by rw [State.updClasses_classes, Table.get_build]; exact hf c, h.ports, h.mem, h.flow, h.epoch⟩

theorem updPort {p : Port} {f : PortRec → PortRec} (hf : (f (s.ports.get p)).InRange) :
    (s.updPort p f).InRange := ⟨h.classes, forall_get_put h.ports hf, h.mem, h.flow, h.epoch⟩

theorem updMem {f : MemPort → MemPort} (hf : (f s.mem).InRange) : (s.updMem f).InRange :=
  ⟨h.classes, h.ports, hf, h.flow, h.epoch⟩

theorem updFlow {f : FlowTable → FlowTable} (hf : (f s.flow).InRange) : (s.updFlow f).InRange :=
  ⟨h.classes, h.ports, h.mem, hf, h.epoch⟩

theorem updEpoch {f : EpochTimer → EpochTimer} (hf : (f s.epoch).InRange) : (s.updEpoch f).InRange :=
  ⟨h.classes, h.ports, h.mem, h.flow, hf⟩

/-- An effect that writes none of the blocks. -/
theorem of_eq (hc : t.classes = s.classes) (hp : t.ports = s.ports) (hm : t.mem = s.mem) (hf : t.flow = s.flow)
    (he : t.epoch = s.epoch) : t.InRange :=
  ⟨hc ▸ h.classes, hp ▸ h.ports, hm ▸ h.mem, hf ▸ h.flow, he ▸ h.epoch⟩

theorem raise (k : Cause) : (s.raise k).InRange := h.of_eq rfl rfl rfl rfl rfl

theorem ite {p : Prop} [Decidable p] (ht : t.InRange) : (if p then s else t).InRange := by
  split
  · exact h
  · exact ht

end State.InRange

/-! ## Host ports -/

theorem PortRec.InRange.given {k : PortRec} (h : k.InRange) (n : Nat) : (k.given n).InRange := by
  unfold PortRec.given
  split <;> exact h

/-- A port with answers queued and credits given. -/
theorem PortRec.InRange.answered {k : PortRec} (h : k.InRange) (l : List Response) (n : Nat) :
    ({ k with queue := k.queue ++ l }.given n).InRange := by
  have queued : ({ k with queue := k.queue ++ l } : PortRec).InRange := h
  exact queued.given n

/-- A port that refuses a request counts it (R101). -/
theorem PortRec.InRange.refused {k : PortRec} (h : k.InRange) (r : Response) :
    (({ k with requestsRefused := bump k.requestsRefused 1 }.enqueue r).returnCredits 1).InRange := by
  obtain ⟨taken, -, faults⟩ := h
  have queued : ({ k with requestsRefused := bump k.requestsRefused 1 }.enqueue r).InRange :=
    ⟨taken, bump_le .., faults⟩
  exact queued.given 1

theorem PortRec.InRange.beginSend {k : PortRec} (h : k.InRange) : k.beginSend.InRange := by
  unfold PortRec.beginSend
  split
  · exact h
  · split <;> exact h

theorem PortRec.InRange.finishResponse {k : PortRec} (h : k.InRange) : k.finishResponse.InRange := by
  unfold PortRec.finishResponse
  split <;> exact h

namespace State.InRange
variable {s t : State} (h : s.InRange)
include h

theorem removeHeld (gone : StoreEntry → Bool) : (s.removeHeld gone).InRange where
  classes c := by
    rw [State.removeHeld_class]
    split <;> exact h.classes c
  ports := h.ports
  mem := h.mem
  flow := h.flow
  epoch := h.epoch

theorem enterOpen (p : Port) : (s.enterOpen p).InRange := (h.updPort (h.ports p)).raise _

theorem portLinkUp (p : Port) : (s.portLinkUp p).InRange := by
  have up : (s.updPort p fun k => { k with linkUp := true, retrain := false }).InRange := h.updPort (h.ports p)
  unfold State.portLinkUp
  split
  · exact up.enterOpen p
  · exact up
  · exact h

theorem cutPort (p : Port) : (s.cutPort p).InRange :=
  have cut := (h.removeHeld (·.port = p)).updMem
    (f := fun m => { m with table := .build fun t => (m.table.get t).orphaned p }) h.mem
  cut.updPort (h.ports p)

theorem portLinkLost (p : Port) : (s.portLinkLost p).InRange := by
  have cut := h.cutPort p
  have lost : ((s.cutPort p).updPort p fun k =>
      { k with linkUp := false, state := k.state.afterLoss }).InRange := cut.updPort (cut.ports p)
  exact ((lost.raise _).raise _).ite (lost.raise _)

theorem openPort {p : Port} (ht : s.openPort p = .ok t) : t.InRange := by
  unfold State.openPort at ht
  split at ht
  · cases ht
    exact h.updPort (h.ports p)
  · cases ht
    exact (h.enterOpen p).ite (h.updPort (h.ports p))
  · cases ht

theorem closePort {p : Port} (ht : s.closePort p = .ok t) : t.InRange := by
  unfold State.closePort at ht
  split at ht
  · cases ht
    exact ((h.updPort (h.ports p)).raise _).ite (h.updPort (h.ports p))
  · cases ht
    exact h.updPort (h.ports p)
  · cases ht

theorem resetPort {p : Port} (ht : s.resetPort p = .ok t) : t.InRange := by
  have cut := h.cutPort p
  unfold State.resetPort at ht
  split at ht
  · cases ht
  · cases ht
    exact ((cut.updPort (cut.ports p)).raise _).ite (cut.updPort (cut.ports p))

theorem responseSent (p : Port) : (s.responseSent p).InRange := by
  have sent : (s.updPort p PortRec.finishResponse).InRange := h.updPort (h.ports p).finishResponse
  exact ((sent.updPort (sent.ports p)).raise _).ite sent

/-- A packet that is discarded, a request that is refused and one that is taken count once (R152). -/
theorem discardPacket (p : Port) : (s.discardPacket p).InRange := by
  obtain ⟨taken, refused, -⟩ := h.ports p
  have counted : (s.updPort p fun k => { k with protocolFaults := bump k.protocolFaults 1 }).InRange :=
    h.updPort ⟨taken, refused, bump_le ..⟩
  exact counted.raise _

theorem refuseInClass (reason : RefusalReason) (c : ClassId) : (s.refuseInClass reason c).InRange := by
  obtain ⟨depth, grants, units, escapes, -⟩ := h.classes c
  have counted : (s.updClass c fun k => { k with classRefusals := bump k.classRefusals 1 }).InRange :=
    h.updClass ⟨depth, grants, units, escapes, bump_le ..⟩
  cases reason with
  | classFull => exact counted.raise _
  | _ => exact counted

theorem refuseRequest (p : Port) (tag : HostTag) (reason : RefusalReason) (cls : Option ClassId) :
    (s.refuseRequest p tag reason cls).InRange := by
  have answered : ((s.updPort p fun k =>
      ({ k with requestsRefused := bump k.requestsRefused 1 }.enqueue ⟨tag, .refused reason⟩).returnCredits 1).raise
        (.port p .refusal)).InRange := (h.updPort ((h.ports p).refused _)).raise _
  cases cls with
  | none => exact answered
  | some c => exact answered.refuseInClass reason c

theorem takeRequest (e : StoreEntry) : (s.takeRequest e).InRange := by
  obtain ⟨-, refused, faults⟩ := h.ports e.port
  rw [State.takeRequest_eq, ← bump_eq]
  refine ⟨fun c => ?_, forall_get_put h.ports ⟨bump_le .., refused, faults⟩, h.mem, h.flow, h.epoch⟩
  dsimp only
  split
  · exact forall_get_put (a := (s.classes.get e.cls).restartClock) h.classes (h.classes e.cls) c
  · exact h.classes c

end State.InRange

/-! ## The memory port -/

namespace State.InRange
variable {s : State} (h : s.InRange)
include h

theorem freeIssuing : s.freeIssuing.InRange := by
  unfold State.freeIssuing
  split
  · exact h.updMem h.mem
  · next e _ => exact ⟨h.classes, forall_get_put h.ports ((h.ports e.port).given 1), h.mem, h.flow, h.epoch⟩

theorem clearDownstream : s.clearDownstream.InRange where
  classes c := by
    rw [State.clearDownstream_classes, State.pauseClocks_class]
    exact h.classes c
  ports p := by
    rw [State.clearDownstream_port]
    exact (h.ports p).answered ..
  mem := by
    rw [State.clearDownstream_mem]
    exact h.mem
  flow := by
    rw [State.clearDownstream_frame]
    exact h.flow
  epoch := by
    rw [State.clearDownstream_frame]
    exact h.epoch

theorem resetDownstream : s.resetDownstream.InRange := h.clearDownstream.updMem h.clearDownstream.mem

theorem answer (p : Port) (r : Response) : (s.answer p r).InRange := h.updPort (h.ports p)

theorem freeTag (d : DTag) : (s.freeTag d).InRange := h.updMem h.mem

theorem unexpectedResponse : s.unexpectedResponse.InRange := by
  obtain ⟨settings, timeouts, late, -, errors⟩ := h.mem
  have counted : (s.updMem fun m => { m with unexpectedResponses := bump m.unexpectedResponses 1 }).InRange :=
    h.updMem ⟨settings, timeouts, late, bump_le .., errors⟩
  exact counted.raise _

theorem memoryError : ((s.updMem fun m => { m with memoryErrors := bump m.memoryErrors 1 }).raise
    (.down .memError)).InRange := by
  obtain ⟨settings, timeouts, late, unexpected, -⟩ := h.mem
  have counted : (s.updMem fun m => { m with memoryErrors := bump m.memoryErrors 1 }).InRange :=
    h.updMem ⟨settings, timeouts, late, unexpected, bump_le ..⟩
  exact counted.raise _

theorem lateDiscarded : ((s.updMem fun m => { m with lateDiscarded := bump m.lateDiscarded 1 }).raise
    (.down .late)).InRange := by
  obtain ⟨settings, timeouts, -, unexpected, errors⟩ := h.mem
  have counted : (s.updMem fun m => { m with lateDiscarded := bump m.lateDiscarded 1 }).InRange :=
    h.updMem ⟨settings, timeouts, bump_le .., unexpected, errors⟩
  exact counted.raise _

theorem timedOut : ((s.updMem fun m => { m with timeouts := bump m.timeouts 1 }).raise (.down .timeout)).InRange := by
  obtain ⟨settings, -, late, unexpected, errors⟩ := h.mem
  have counted : (s.updMem fun m => { m with timeouts := bump m.timeouts 1 }).InRange :=
    h.updMem ⟨settings, bump_le .., late, unexpected, errors⟩
  exact counted.raise _

theorem answerInFlight (d : DTag) (r : FlightRecord) (k : MemPacket) : (s.answerInFlight d r k).InRange := by
  have failed := (h.freeTag d).answer r.port ⟨r.hostTag, .failed⟩
  exact ((h.freeTag d).answer ..).ite (failed.memoryError.ite (failed.raise _))

theorem memoryResponse (k : MemPacket) : (s.memoryResponse k).InRange := by
  unfold State.memoryResponse
  split
  · exact h.answerInFlight ..
  · exact h.freeTag _
  · exact (h.freeTag _).lateDiscarded
  · exact h.unexpectedResponse

theorem memoryCredit (n : Nat) : (s.memoryCredit n).InRange := by
  have clamped : (s.updMem fun m => { m with credits := m.announced }).InRange := h.updMem h.mem
  exact (clamped.raise _).ite (h.updMem h.mem)

theorem memoryPacket (k : MemPacket) : (s.memoryPacket k).InRange := by
  unfold State.memoryPacket
  split
  · exact h.memoryResponse k
  · exact h.memoryResponse k
  · exact h.memoryResponse k
  · exact h.memoryCredit _
  · exact h.unexpectedResponse

theorem memoryLinkUp (n : Nat) : (s.memoryLinkUp n).InRange := by
  have up : (s.updMem fun m => { m with link := .up, announced := n, credits := n, retrain := false }).InRange :=
    h.updMem h.mem
  have down : (s.updMem fun m => { m with retrain := true }).InRange := h.updMem h.mem
  exact (up.raise _).ite (down.raise _)

theorem makeLate (d : DTag) (r : FlightRecord) : (s.makeLate d r).InRange := by
  have late : (s.updMem (·.putEntry d (.late r))).InRange := h.updMem h.mem
  exact (late.raise _).ite late

theorem timeOut (d : DTag) : (s.timeOut d).InRange := by
  unfold State.timeOut
  split
  · exact (h.answer ..).timedOut.makeLate ..
  · exact h.makeLate ..
  · exact h

end State.InRange

/-! ## Classes and the epoch timer -/

theorem ClassRec.InRange.granted {k : ClassRec} (h : k.InRange) (kind : GrantKind) (n : Nat) :
    (k.granted kind n).InRange := by
  obtain ⟨depth, -, -, escapes, refusals⟩ := h
  refine ⟨depth, bump_le .., bump_le .., ?_, refusals⟩
  unfold ClassRec.granted
  dsimp only
  split
  · exact bump_le ..
  · exact escapes

/-- An entry that R87 allows, put into a bank. -/
theorem FlowTable.InRange.putEntry {f : FlowTable} (h : f.InRange) (b : Bank) (i : EntryIdx) {e : FlowEntry}
    (he : e.consistent = true) : (f.putEntry b i e).InRange := by
  obtain ⟨memLimit, entries⟩ := h
  have bank : ∀ j, (((f.banks.get b).put i e).get j).consistent = true :=
    forall_get_put (P := fun e : FlowEntry => e.consistent = true) (entries b) he
  exact ⟨memLimit, forall_get_put (P := fun t : Table 24 FlowEntry => ∀ j, (t.get j).consistent = true) entries bank⟩

/-- A timer that starts an epoch under its written exponent (R35, R42). -/
theorem EpochTimer.InRange.started {e : EpochTimer} (h : e.InRange) (counter : Word) :
    ({ e with activeExp := e.writtenExp, time := 0, counter := counter } : EpochTimer).InRange := by
  obtain ⟨-, written, -⟩ := h
  exact ⟨written, written, Nat.two_pow_pos _⟩

theorem EpochTimer.InRange.atMidPoint {e : EpochTimer} (h : e.InRange) :
    ({ e with time := e.midPoint } : EpochTimer).InRange := by
  obtain ⟨active, written, -⟩ := h
  exact ⟨active, written, Nat.pow_lt_pow_right (by decide) (Nat.sub_lt (by omega) (by decide))⟩

theorem EpochTimer.InRange.tick {e : EpochTimer} (h : e.InRange) : e.tick.InRange := by
  obtain ⟨active, written, time⟩ := h
  rw [EpochTimer.tick_eq]
  refine ⟨active, written, ?_⟩
  dsimp only
  split <;> omega

namespace State.InRange
variable {s : State} (h : s.InRange)
include h

theorem setWaitLimit (c : ClassId) (n : Nat) : (s.setWaitLimit c n).InRange := by
  unfold State.setWaitLimit
  split
  · have off : (s.updClass c fun k => { k.stopClock with writtenWait := 0, activeWait := 0 }).InRange :=
      h.updClass (h.classes c)
    exact off.of_eq rfl rfl rfl rfl rfl
  · split <;> exact h.updClass (h.classes c)

/-- A cleared counter is 0 (R153). -/
theorem clearCounter (n : CounterId) : (s.clearCounter n).InRange := by
  have zero : 0 ≤ 4294967295 := Nat.zero_le _
  obtain ⟨settings, timeouts, late, unexpected, errors⟩ := h.mem
  have inClass : ∀ c k, k.InRange → ({ s with classes := s.classes.put c k } : State).InRange := fun c k hk =>
    ⟨forall_get_put h.classes hk, h.ports, h.mem, h.flow, h.epoch⟩
  have inPort : ∀ p k, k.InRange → ({ s with ports := s.ports.put p k } : State).InRange := fun p k hk =>
    ⟨h.classes, forall_get_put h.ports hk, h.mem, h.flow, h.epoch⟩
  have inMem : ∀ m, m.InRange → ({ s with mem := m } : State).InRange := fun m hm =>
    ⟨h.classes, h.ports, hm, h.flow, h.epoch⟩
  cases n with
  | grants c => exact have ⟨depth, _, rest⟩ := h.classes c; inClass c _ ⟨depth, zero, rest⟩
  | grantedUnits c => exact have ⟨depth, grants, _, rest⟩ := h.classes c; inClass c _ ⟨depth, grants, zero, rest⟩
  | escapeGrants c =>
    exact have ⟨depth, grants, units, _, rest⟩ := h.classes c; inClass c _ ⟨depth, grants, units, zero, rest⟩
  | classRefusals c =>
    exact have ⟨depth, grants, units, escapes, _⟩ := h.classes c
      inClass c _ ⟨depth, grants, units, escapes, zero⟩
  | requestsTaken p => exact have ⟨_, rest⟩ := h.ports p; inPort p _ ⟨zero, rest⟩
  | requestsRefused p => exact have ⟨taken, _, rest⟩ := h.ports p; inPort p _ ⟨taken, zero, rest⟩
  | protocolFaults p => exact have ⟨taken, refused, _⟩ := h.ports p; inPort p _ ⟨taken, refused, zero⟩
  | timeouts => exact inMem _ ⟨settings, zero, late, unexpected, errors⟩
  | lateDiscarded => exact inMem _ ⟨settings, timeouts, zero, unexpected, errors⟩
  | unexpectedResponses => exact inMem _ ⟨settings, timeouts, late, zero, errors⟩
  | memoryErrors => exact inMem _ ⟨settings, timeouts, late, unexpected, zero⟩

theorem abortHeld (gone : StoreEntry → Bool) : (s.abortHeld gone).InRange where
  classes := (h.removeHeld gone).classes
  ports p := by
    rw [State.abortHeld_port]
    exact (h.ports p).answered ..
  mem := h.mem
  flow := h.flow
  epoch := h.epoch

theorem trafficReset : s.trafficReset.InRange := by
  have traffic : (s.resetTraffic (Config.storePartFirst s.freeIndex)).InRange :=
    (h.abortHeld _).resetDownstream.ite (h.resetDownstream.abortHeld _)
  have blocks := (traffic.updClasses (f := fun _ k => { k.resetBudget.resetMonitor with slot := none })
    traffic.classes).updEpoch (f := EpochTimer.restart) (traffic.epoch.started 0)
  exact blocks.of_eq rfl rfl rfl rfl rfl

theorem snapshot (classes : Byte) : (s.snapshot classes).InRange := h.updClasses fun c => by
  split <;> exact h.classes c

theorem epochBoundary : s.epochBoundary.InRange := by
  have timer : (s.updEpoch EpochTimer.boundary).InRange := h.updEpoch (h.epoch.started _)
  refine (timer.updClasses (f := fun _ => ClassRec.atBoundary) fun c => ?_).raise _
  rw [ClassRec.atBoundary_eq]
  exact h.classes c

theorem midEpochPoint : s.midEpochPoint.InRange := by
  have timer : (s.updEpoch fun e => { e with time := e.midPoint }).InRange := h.updEpoch h.epoch.atMidPoint
  refine timer.updClasses (f := fun _ => ClassRec.atMidEpoch) fun c => ?_
  rw [ClassRec.atMidEpoch_eq]
  exact h.classes c

theorem frameEdge : s.frameEdge.InRange := by
  have edge : (s.updPins fun k => { k with frameSample := some true }).InRange := h.of_eq rfl rfl rfl rfl rfl
  refine (edge.updClasses (f := fun _ => ClassRec.atFrame) fun c => ?_).raise _
  rw [ClassRec.atFrame_eq]
  exact h.classes c

theorem settleTenure : s.settleTenure.InRange := by
  rw [State.settleTenure_frame]
  exact h.of_eq rfl rfl rfl rfl rfl

theorem grant (c : ClassId) (kind : GrantKind) (e : StoreEntry) (d : DTag) : (s.grant c kind e d).InRange := by
  rw [State.grant_eq]
  exact ⟨forall_get_put h.classes ((h.classes c).granted kind e.length), h.ports, h.mem, h.flow, h.epoch⟩

theorem captureAt (a : Addr) : (s.captureAt a).InRange := by
  unfold State.captureAt State.captureWord
  split <;> exact h.of_eq rfl rfl rfl rfl rfl

theorem takeAddress (a : Addr) : (s.takeAddress a).InRange := by
  have addressed : ∀ f, (s.updMgmt f).InRange := fun f => h.of_eq rfl rfl rfl rfl rfl
  unfold State.takeAddress
  split
  · exact (addressed _).captureAt a
  · exact addressed _
  · exact h

theorem closeFrame : s.closeFrame.InRange := by
  unfold State.closeFrame State.abandonClaim
  split <;> exact h.of_eq rfl rfl rfl rfl rfl

/-- A base tick moves the epoch time alone among what the laws bound. -/
theorem tick : s.tick.InRange := by
  by_cases hr : s.pins.rstLow = true
  · rw [State.tick, if_neg (by simp [State.awake, hr])]
    exact h
  · rw [State.tick_of_awake (Bool.eq_false_iff.mpr hr), State.readTick_frame]
    refine ⟨fun c => ?_, h.ports, h.mem, h.flow, h.epoch.tick⟩
    rw [Table.get_build, State.tickClass_eq]
    exact h.classes c

end State.InRange

/-- The power-on values are in range (R41, R105, R143, R157). -/
theorem State.atPowerOn_inRange (s : State) (b : Bool) : (s.atPowerOn b).InRange :=
  State.InRange.of_eq (s := State.powerOn b)
    ((State.inRange_iff _).mpr ⟨powerOn_flowLaw b, powerOn_settingsLaw b, powerOn_epochLaw b, powerOn_counterLaw b⟩)
    rfl rfl rfl rfl rfl

/-! ## Every step -/

/-- An accepted word sets values of its range (R162). -/
theorem Accepted.inRange {s t : State} (ht : Accepted s t) (h : s.InRange) : t.InRange := by
  obtain ⟨memLimit, entries⟩ := h.flow
  obtain ⟨⟨timeout, level⟩, counters⟩ := h.mem
  cases ht with
  | mode c | allowance c | tenureLimit c | admission c | reloadClass c => exact h.updClass (h.classes c)
  | depthLimit c n hn => exact have ⟨_, counters⟩ := h.classes c; h.updClass ⟨hn, counters⟩
  | waitLimit c n => exact h.setWaitLimit c n
  | defaultAction p | creditLimit p => exact h.updPort (h.ports p)
  | deviceConfig n m hn =>
    obtain ⟨active, -, time⟩ := h.epoch
    have timer : (s.updEpoch fun e => { e with writtenExp := n }).InRange := h.updEpoch ⟨active, hn, time⟩
    exact timer.of_eq rfl rfl rfl rfl rfl
  | memLimit n hn => exact h.updFlow ⟨hn, entries⟩
  | timeout n hn => exact h.updMem ⟨⟨hn, level⟩, counters⟩
  | quarantineLevel n hn => exact h.updMem ⟨⟨timeout, hn⟩, counters⟩
  | flowEntry b i e _ he => exact h.updFlow (h.flow.putEntry b i he)
  | counter n => exact h.clearCounter n
  | openPort p ht => exact h.openPort ht
  | closePort p ht => exact h.closePort ht
  | resetPort p ht => exact h.resetPort ht
  | resetDownstream => exact h.resetDownstream
  | purgeClass c => exact h.abortHeld _
  | swapBanks => exact h.updFlow ⟨memLimit, entries⟩
  | snapshot classes => exact h.snapshot classes
  | trafficReset => exact h.trafficReset
  | ring | enables | setLowest => exact h.of_eq rfl rfl rfl rfl rfl

/-- Every command keeps the ranges. -/
theorem Effect.inRange {s t : State} {i : Instr} (ht : Effect s i t) (h : s.InRange) : t.InRange := by
  cases ht with
  | nothing => exact h
  | accepted _ ht => exact (ht.inRange h).of_eq rfl rfl rfl rfl rfl
  | discarded p => exact h.discardPacket p
  | refused p => exact (h.updPort (f := (·.admitTag _)) (h.ports p)).refuseRequest ..
  | taken p => exact (h.updPort (f := (·.admitTag _)) (h.ports p)).takeRequest _
  | portLinkUp p => exact h.portLinkUp p
  | portLinkLost p => exact h.portLinkLost p
  | upstreamSendBegin p => exact h.updPort (h.ports p).beginSend
  | creditSendEnd p => exact h.updPort (h.ports p)
  | responseSendEnd p => exact h.responseSent p
  | settled => exact h.settleTenure
  | granted c kind e d => exact h.settleTenure.grant c kind e d
  | sendEnd => exact h.freeIssuing
  | memoryPacket => exact h.memoryPacket _
  | memTraining => exact h.updMem h.mem
  | memLinkUp => exact h.memoryLinkUp _
  | memLinkLost =>
    exact (h.clearDownstream.updMem (f := fun m => { m with link := .down }) h.clearDownstream.mem).raise _
  | entryTimeout d => exact h.timeOut d
  | firstExpiry c =>
    exact (h.updClass (f := fun k => { k.restartClock with strikes := 1 }) (h.classes c)).raise _
  | secondExpiry c =>
    exact (h.updClass (c := c) (f := fun k => { k with strikes := 2, clock := k.activeWait }) (h.classes c)).of_eq
      rfl rfl rfl rfl rfl
  | epochBoundary => exact h.epochBoundary
  | midEpochPoint => exact h.midEpochPoint
  | frameEdge => exact h.frameEdge
  | rstAssert => exact (s.atPowerOn_inRange false).of_eq rfl rfl rfl rfl rfl
  | rstRelease b => exact s.atPowerOn_inRange b
  | lastAddressBit a => exact h.takeAddress a
  | csRise =>
    exact State.InRange.closeFrame (s := s.updPins _) (h.of_eq rfl rfl rfl rfl rfl)
  | claimCapture g => exact h.captureAt _
  | claimCompletion g => exact State.InRange.captureAt (s := s.completeClaim g) (h.of_eq rfl rfl rfl rfl rfl) _
  | snapshotSlotRead c => exact (h.updClass (f := fun k => { k with slot := none }) (h.classes c)).captureAt _
  | _ => exact h.of_eq rfl rfl rfl rfl rfl

/-- Settles O48: a base tick and every command keep each block's record in range. -/
theorem settingLawsKept : Obligations.SettingLawsKept := by
  intro s t hf hs he hc hstep
  have h : s.InRange := s.inRange_iff.mpr ⟨hf, hs, he, hc⟩
  rw [← State.inRange_iff]
  rcases effect_of_step hstep with ⟨-, rfl⟩ | ⟨i, rest, -, heffect⟩
  · exact h.tick
  · exact heffect.inRange (h.of_eq rfl rfl rfl rfl rfl)

end Sys2Proof.Machine


/-! # What the words of the management space read as (R160, R169) -/

namespace Sys2Proof.Machine

/-! ## The address map -/

/-- The map finds each word at its own address. -/
theorem decodeAddr_addr (w : MgmtWord) : decodeAddr w.addr = some w := by
  rw [decodeAddr, MgmtWord.addr_toNat]
  cases w with
  | portState p | creditLimit p | defaultClass p | portCredits p | portLoad p => revert p; decide
  | mode c | allowance c | budget c | admitOn c | depthLimit c | tenureLimit c | waitLimit c | classState c =>
    revert c; decide
  | flowEntry b i k => revert b i k; decide
  | inFlight d second => revert d second; decide
  | slot c k => revert c k; decide
  | counter n =>
    cases n with
    | grants c | grantedUnits c | escapeGrants c | classRefusals c => revert c; decide
    | requestsTaken p | requestsRefused p | protocolFaults p => revert p; decide
    | _ => rfl
  | claim g | peek g | enable g => revert g; decide
  | _ => rfl

/-! Where a block's map finds a word, the word stands at that offset of the block. -/

theorem address_of_deviceWordAt {n : Nat} {w : MgmtWord} (h : deviceWordAt n = some w) : w.address = n := by
  unfold deviceWordAt at h
  split at h <;> cases h <;> rfl

theorem address_of_portWordAt {p : Port} {k : Nat} {w : MgmtWord} (h : portWordAt p k = some w) :
    w.address = 0x0100 + 16 * p.val + k := by
  unfold portWordAt at h
  split at h <;> cases h <;> simp only [MgmtWord.address] <;> omega

theorem address_of_classWordAt {c : ClassId} {k : Nat} {w : MgmtWord} (h : classWordAt c k = some w) :
    w.address = 0x0200 + 16 * c.val + k := by
  unfold classWordAt at h
  split at h <;> cases h <;> simp only [MgmtWord.address] <;> omega

theorem address_of_classCounterAt {c : ClassId} {k : Nat} {w : MgmtWord} (h : classCounterAt c k = some w) :
    w.address = 0x0800 + 4 * c.val + k := by
  unfold classCounterAt at h
  split at h <;> cases h <;> simp only [MgmtWord.address, counterAddress] <;> omega

theorem address_of_portCounterAt {p : Port} {k : Nat} {w : MgmtWord} (h : portCounterAt p k = some w) :
    w.address = 0x0820 + 4 * p.val + k := by
  unfold portCounterAt at h
  split at h <;> cases h <;> simp only [MgmtWord.address, counterAddress] <;> omega

theorem address_of_memCounterAt {k : Nat} {w : MgmtWord} (h : memCounterAt k = some w) : w.address = 0x0830 + k := by
  unfold memCounterAt at h
  split at h <;> cases h <;> rfl

theorem address_of_groupWordAt {g : GroupId} {k : Nat} {w : MgmtWord} (h : groupWordAt g k = some w) :
    w.address = 0x0900 + 4 * g.val + k := by
  unfold groupWordAt at h
  split at h <;> cases h <;> simp only [MgmtWord.address] <;> omega

/-- A word that a map of two ranges finds is found in one of them. -/
theorem of_ite_eq_some {α : Type} {c P : Prop} [Decidable c] {x y : Option α} {a : α} (hx : c → x = some a → P)
    (hy : ¬c → y = some a → P) (h : (if c then x else y) = some a) : P := by
  split at h
  · next hc => exact hx hc h
  · next hc => exact hy hc h

/-- The map finds a word at its address alone. -/
theorem address_of_wordAt {n : Nat} {w : MgmtWord} : wordAt n = some w → w.address = n := by
  unfold wordAt
  refine of_ite_eq_some (fun _ => address_of_deviceWordAt) fun _ => of_ite_eq_some (fun _ h => ?port) fun _ =>
    of_ite_eq_some (fun _ => nofun) fun _ => of_ite_eq_some (fun _ h => ?cls) fun _ =>
    of_ite_eq_some (fun _ => nofun) fun _ => of_ite_eq_some (fun _ h => ?bank0) fun _ =>
    of_ite_eq_some (fun _ => nofun) fun _ => of_ite_eq_some (fun _ h => ?bank1) fun _ =>
    of_ite_eq_some (fun _ => nofun) fun _ => of_ite_eq_some (fun _ h => ?inFlight) fun _ =>
    of_ite_eq_some (fun _ => nofun) fun _ => of_ite_eq_some (fun _ h => ?slot) fun _ =>
    of_ite_eq_some (fun _ => nofun) fun _ => of_ite_eq_some (fun _ h => ?classCounter) fun _ =>
    of_ite_eq_some (fun _ h => ?portCounter) fun _ => of_ite_eq_some (fun _ h => ?memCounter) fun _ =>
    of_ite_eq_some (fun _ => nofun) fun _ => of_ite_eq_some (fun _ h => ?group) fun _ =>
    of_ite_eq_some (fun hn h => ?summary) fun _ => nofun
  case port => rw [address_of_portWordAt h, Fin.val_ofNat]; omega
  case cls => rw [address_of_classWordAt h, Fin.val_ofNat]; omega
  case bank0 => cases h; simp only [MgmtWord.address, Fin.val_ofNat, Fin.val_zero]; omega
  case bank1 => cases h; simp only [MgmtWord.address, Fin.val_ofNat, Fin.val_one]; omega
  case inFlight =>
    cases h
    simp only [MgmtWord.address, Fin.val_ofNat, beq_iff_eq]
    split <;> omega
  case slot => cases h; simp only [MgmtWord.address, Fin.val_ofNat]; omega
  case classCounter => rw [address_of_classCounterAt h, Fin.val_ofNat]; omega
  case portCounter => rw [address_of_portCounterAt h, Fin.val_ofNat]; omega
  case memCounter => rw [address_of_memCounterAt h]; omega
  case group => rw [address_of_groupWordAt h, Fin.val_ofNat]; omega
  case summary => cases h; exact hn.symm

theorem addr_of_decodeAddr {a : Addr} {w : MgmtWord} (h : decodeAddr a = some w) : w.addr = a :=
  BitVec.eq_of_toNat_eq (w.addr_toNat.trans (address_of_wordAt h))

end Sys2Proof.Machine


namespace Sys2Proof.Machine

/-! ## Fields of a word -/

/-- A field whose value fits it (R169). -/
theorem field_of_lt {v len : Nat} (lo : Nat) (h : v < 2 ^ len) : field v lo len = 2 ^ lo * v := by
  rw [field, Nat.mod_eq_of_lt h, Nat.mul_comm]

theorem flagBit_le (b : Bool) (lo : Nat) : flagBit b lo ≤ 2 ^ lo := by
  cases b
  · exact Nat.zero_le _
  · exact le_rfl

theorem toNat_word {n : Nat} (h : n < 4294967296) : (BitVec.ofNat 32 n).toNat = n := Nat.mod_eq_of_lt h

theorem toInt_word {b : Int} (h : -7 ≤ b ∧ b ≤ 65535) : (BitVec.ofInt 32 b).toInt = b := by
  rw [BitVec.toInt_ofInt]
  exact Int.bmod_eq_of_le (by omega) (by omega)

/-! The codes of R169 fit their fields. -/

theorem LinkState.code_lt (l : LinkState) : l.code < 4 := by cases l <;> decide

theorem PortState.code_lt (l : PortState) : l.code < 8 := by cases l <;> decide

theorem Mode.code_lt (m : Mode) : m.code < 8 := by cases m <;> decide

theorem Operation.code_lt (o : Operation) : o.code < 4 := by cases o <;> decide

theorem Reject.code_lt (r : Reject) : r.code < 4 := by cases r <;> decide

theorem Action.code_lt (a : Action) : a.code < 16 := by
  cases a with
  | cls c => simp only [Action.code]; omega
  | deny => decide

/-! ## Counts that fit their fields -/

/-- An entry is ORPHAN (R129). -/
def InFlight.isOrphan : InFlight → Bool
  | .orphan _ _ => true
  | _ => false

/-- Each tag is FREE, LATE, IN_FLIGHT or ORPHAN (R129). -/
theorem MemPort.count_states (m : MemPort) :
    m.freeCount + m.lateCount + m.inFlightRecords.length
      + ((List.finRange 64).filter fun d => (m.table.get d).isOrphan).length = 64 := by
  refine Eq.trans ?_ (List.length_finRange (n := 64))
  unfold MemPort.freeCount MemPort.lateCount MemPort.inFlightRecords
  generalize List.finRange 64 = l
  induction l with
  | nil => rfl
  | cons d l ih =>
    rw [List.length_cons, ← ih]
    cases h : m.table.get d <;> simp [h, InFlight.isFree, InFlight.isLate, InFlight.isOrphan] <;> omega

/-- The host credits of a port never pass its credit limit (R112). -/
theorem State.CreditLaw.hostCredits_le {s : State} (h : s.CreditLaw) (p : Port) : (s.ports.get p).hostCredits ≤ 64 := by
  obtain ⟨⟨-, high⟩, -, -, -, hstate⟩ := h.1 p
  split at hstate <;> omega

theorem State.CreditLaw.pendingCredits_le {s : State} (h : s.CreditLaw) (p : Port) :
    (s.ports.get p).pendingCredits ≤ 64 := by
  obtain ⟨-, pending, -⟩ := h.1 p
  exact pending.trans (h.hostCredits_le p)

/-- The ring holds eight classes (R45). -/
theorem State.RingLaw.length {s : State} (h : s.RingLaw) : s.arb.ring.length = 8 := by
  obtain ⟨nodup, all⟩ := h
  have perm : s.arb.ring.Perm (List.finRange 8) :=
    (List.perm_ext_iff_of_nodup nodup (List.nodup_finRange 8)).mpr fun c => by simp [all]
  simpa using perm.length_eq

/-- Digit `i` of a RING word is the class at position `i` (R169). -/
theorem wordOfRing_digit {ring : List ClassId} {i : Nat} (h : i < ring.length) :
    ring[i]?.map Fin.val = some (wordOfRing ring / 16 ^ i % 16) := by
  induction ring generalizing i with
  | nil => exact absurd h (Nat.not_lt_zero _)
  | cons c ring ih =>
    have rest : (c.val + 16 * wordOfRing ring) / 16 = wordOfRing ring := by omega
    cases i with
    | zero =>
      simp only [List.getElem?_cons_zero, Option.map_some, wordOfRing, pow_zero, Nat.div_one, Option.some.injEq]
      omega
    | succ i =>
      rw [List.getElem?_cons_succ, ih (Nat.lt_of_succ_lt_succ h), wordOfRing, Nat.pow_succ', ← Nat.div_div_eq_div_mul,
        rest]

theorem wordOfRing_lt (ring : List ClassId) : wordOfRing ring < 16 ^ ring.length := by
  induction ring with
  | nil => decide
  | cons c ring ih =>
    rw [wordOfRing, List.length_cons, Nat.pow_succ]
    omega

/-! ## The values of the words, field by field -/

section values
variable {s : State}

theorem State.deviceConfig_value (h : s.EpochLaw) :
    (s.wordValue .deviceConfig).toNat = s.epoch.writtenExp + flagBit (s.arb.mode == .rotate) 8 := by
  obtain ⟨-, ⟨-, high⟩, -⟩ := h
  have := flagBit_le (s.arb.mode == .rotate) 8
  simp only [State.wordValue, State.deviceConfigWord]
  rw [field_of_lt 0 (by omega), toNat_word (by omega)]
  omega

theorem State.status0_value (h : s.MemoryLaw) :
    (s.wordValue .status0).toNat = s.mem.link.code + 2 ^ 2 * s.mem.announced + 2 ^ 8 * s.mem.credits
      + 2 ^ 14 * s.mem.freeCount + 2 ^ 21 * s.mem.lateCount + 2 ^ 28 * s.flow.active.val := by
  obtain ⟨⟨credits, announced⟩, -⟩ := h
  have link := s.mem.link.code_lt
  have count := s.mem.count_states
  have active := s.flow.active.isLt
  simp only [State.wordValue, State.status0Word]
  rw [field_of_lt 0 (by omega), field_of_lt 2 (by omega), field_of_lt 8 (by omega), field_of_lt 14 (by omega),
    field_of_lt 21 (by omega), field_of_lt 28 (by omega), toNat_word (by omega)]
  omega

theorem State.ring_value (h : s.RingLaw) : (s.wordValue .ring).toNat = wordOfRing s.arb.ring := by
  have lt := wordOfRing_lt s.arb.ring
  rw [h.length] at lt
  exact toNat_word (by omega)

theorem State.lastReject_value {a : Addr} {r : Reject} (h : s.mgmt.lastReject = some (a, r)) :
    (s.wordValue .lastReject).toNat = a.toNat + 2 ^ 16 * r.code := by
  have reason := r.code_lt
  have address := a.isLt
  simp only [State.wordValue, MgmtLink.lastRejectWord, h]
  rw [field_of_lt 0 address, field_of_lt 16 (by omega), toNat_word (by omega)]
  omega

theorem State.lastReject_value_none (h : s.mgmt.lastReject = none) : (s.wordValue .lastReject).toNat = 0 := by
  simp only [State.wordValue, MgmtLink.lastRejectWord, h]
  rfl

theorem State.portState_value (p : Port) :
    (s.wordValue (.portState p)).toNat = (s.ports.get p).state.code + flagBit (s.ports.get p).linkUp 3 := by
  have code := (s.ports.get p).state.code_lt
  have up := flagBit_le (s.ports.get p).linkUp 3
  simp only [State.wordValue, PortRec.stateWord]
  rw [field_of_lt 0 (by omega), toNat_word (by omega)]
  omega

theorem State.portCredits_value (h : s.CreditLaw) (p : Port) :
    (s.wordValue (.portCredits p)).toNat =
      (s.ports.get p).hostCredits + 2 ^ 8 * (s.ports.get p).pendingCredits := by
  have host := h.hostCredits_le p
  have pending := h.pendingCredits_le p
  simp only [State.wordValue, PortRec.creditsWord]
  rw [field_of_lt 0 (by omega), field_of_lt 8 (by omega), toNat_word (by omega)]
  omega

theorem State.portLoad_value (h : s.CreditLaw) (ha : s.AnswerLaw) (p : Port) :
    (s.wordValue (.portLoad p)).toNat = s.storeEntries p + 2 ^ 8 * (s.ports.get p).outstanding.length
      + 2 ^ 16 * (s.ports.get p).queue.length := by
  obtain ⟨-, bounds⟩ := storeAndQueuesBounded s h ha
  obtain ⟨outstanding, queue, -⟩ := bounds p
  have entries := h.storeEntries_le p
  obtain ⟨⟨-, limit⟩, -⟩ := h.1 p
  simp only [State.wordValue, State.portLoadWord]
  rw [field_of_lt 0 (by omega), field_of_lt 8 (by omega), field_of_lt 16 (by omega), toNat_word (by omega)]
  omega

theorem State.classState_value (h : s.CreditLaw) (ht : s.TenureLaw) (c : ClassId) :
    (s.wordValue (.classState c)).toNat = (s.queue c).length + 2 ^ 8 * (s.classes.get c).strikes.val
      + flagBit (Decidable.decide (c ∈ s.escapeList)) 10 + flagBit (Decidable.decide (s.arb.holder = some c)) 11
      + 2 ^ 12 * (if s.arb.holder = some c then s.arb.count else 0) := by
  have queue : (s.queue c).length ≤ s.held.length := List.length_filter_le ..
  have store := h.store_le
  have strikes := (s.classes.get c).strikes.isLt
  have marked : s.marked c = Decidable.decide (c ∈ s.escapeList) := List.contains_eq_mem ..
  have holds : s.holdsTenure c = Decidable.decide (s.arb.holder = some c) := by
    rw [Bool.eq_iff_iff, State.holdsTenure, beq_iff_eq, decide_eq_true_eq]
  have count : s.tenureCountOf c = if s.arb.holder = some c then s.arb.count else 0 := by
    simp only [State.tenureCountOf, holds, decide_eq_true_eq]
  have count_le : s.tenureCountOf c ≤ 16 := by
    rw [count]
    split
    · next hc => exact (ht.2.1 c hc).2
    · exact Nat.zero_le _
  have mark := flagBit_le (s.marked c) 10
  have flag := flagBit_le (s.holdsTenure c) 11
  simp only [State.wordValue, State.classStateWord]
  rw [field_of_lt 0 (by omega), field_of_lt 8 (by omega), field_of_lt 12 (by omega), toNat_word (by omega),
    ← marked, ← holds, ← count]
  omega

theorem State.flowStreams_value (b : Bank) (i : EntryIdx) :
    (s.wordValue (.flowEntry b i 0)).toNat = ((s.flow.banks.get b).get i).streamLow.toNat
      + 2 ^ 4 * ((s.flow.banks.get b).get i).streamHigh.toNat := by
  have low := ((s.flow.banks.get b).get i).streamLow.isLt
  have high := ((s.flow.banks.get b).get i).streamHigh.isLt
  simp only [State.wordValue, FlowEntry.word]
  rw [field_of_lt 0 low, field_of_lt 4 high, toNat_word (by omega)]
  omega

theorem State.flowBase_value (b : Bank) (i : EntryIdx) :
    (s.wordValue (.flowEntry b i 1)).toNat = ((s.flow.banks.get b).get i).base.toNat := by
  have base := ((s.flow.banks.get b).get i).base.isLt
  simp only [State.wordValue, FlowEntry.word]
  rw [field_of_lt 0 base, toNat_word (by omega)]
  omega

theorem State.flowLimit_value (b : Bank) (i : EntryIdx) :
    (s.wordValue (.flowEntry b i 2)).toNat = ((s.flow.banks.get b).get i).limit.toNat := by
  have limit := ((s.flow.banks.get b).get i).limit.isLt
  simp only [State.wordValue, FlowEntry.word]
  rw [field_of_lt 0 limit, toNat_word (by omega)]
  omega

theorem State.flowAction_value (b : Bank) (i : EntryIdx) :
    (s.wordValue (.flowEntry b i 3)).toNat = flagBit ((s.flow.banks.get b).get i).valid 0
      + flagBit ((s.flow.banks.get b).get i).windowPresent 1 + 2 ^ 2 * ((s.flow.banks.get b).get i).operation.code
      + 2 ^ 4 * ((s.flow.banks.get b).get i).portSet.toNat + 2 ^ 8 * ((s.flow.banks.get b).get i).action.code := by
  generalize he : (s.flow.banks.get b).get i = e
  have valid := flagBit_le e.valid 0
  have window := flagBit_le e.windowPresent 1
  have operation := e.operation.code_lt
  have ports := e.portSet.isLt
  have action := e.action.code_lt
  simp only [State.wordValue, FlowEntry.word, he]
  rw [field_of_lt 2 (by omega), field_of_lt 4 ports, field_of_lt 8 (by omega), toNat_word (by omega)]

/-- Word 0 of an in-flight view, the record under its state's code (R142). -/
theorem FlightRecord.viewWord_eq {r : FlightRecord} {code : Nat} (hc : code < 4) (hl : r.length ≤ 8) :
    (BitVec.ofNat 32 (r.viewWord code)).toNat = code + (2 ^ 2 * r.port.val + 2 ^ 4 * r.hostTag.toNat
      + flagBit (decide (r.kind = .write)) 9 + 2 ^ 10 * r.length + 2 ^ 14 * r.cls.val) := by
  have port := r.port.isLt
  have tag := r.hostTag.isLt
  have cls := r.cls.isLt
  have kind : field r.kind.viewCode 9 1 = flagBit (decide (r.kind = .write)) 9 := by cases r.kind <;> rfl
  have kind_le := flagBit_le (decide (r.kind = .write)) 9
  rw [FlightRecord.viewWord, kind, field_of_lt 0 (by omega), field_of_lt 2 (by omega), field_of_lt 4 tag,
    field_of_lt 10 (by omega), field_of_lt 14 (by omega), toNat_word (by omega)]
  omega

/-- A remaining time as it is shown: a time of 0, whose timeout has not been taken, as 1 (R142). -/
theorem remaining_value {n : Nat} (h : n ≤ 65535) :
    (BitVec.ofNat 32 (field (max n 1) 0 16)).toNat = if n = 0 then 1 else n := by
  rw [field_of_lt 0 (by omega), toNat_word (by omega)]
  split <;> omega

theorem State.slotMonitor_value {c : ClassId} {v : Snapshot} (h : s.SlotLaw) (hv : (s.classes.get c).slot = some v) :
    (s.wordValue (.slot c 2)).toNat = v.strikes.val + flagBit v.mark 2 + flagBit v.tenureFlag 3
      + 2 ^ 4 * v.tenureCount + 2 ^ 31 := by
  obtain ⟨-, -, count, -⟩ := h c v hv
  have strikes := v.strikes.isLt
  have mark := flagBit_le v.mark 2
  have flag := flagBit_le v.tenureFlag 3
  have held : flagBit true 31 = 2 ^ 31 := rfl
  simp only [State.wordValue, slotWord, hv]
  rw [field_of_lt 0 (by omega), field_of_lt 4 (by omega), held, toNat_word (by omega)]
  omega

end values

/-! ## Every word at its address -/

/-- What the address of a mapped word reads as. -/
theorem State.readAt_of_address (s : State) {w : MgmtWord} {n : Nat} (h : w.address = n) :
    s.readAt (BitVec.ofNat 16 n) = s.wordValue w := by
  have hw : BitVec.ofNat 16 n = w.addr := by rw [← h]; rfl
  rw [hw, State.readAt, decodeAddr_addr]

/-- An unmapped address reads 0 (R160). -/
theorem State.readAt_unmapped (s : State) {a : Addr} (h : ∀ w : MgmtWord, w.addr ≠ a) : s.readAt a = 0 := by
  unfold State.readAt
  split
  · next w hw => exact absurd (addr_of_decodeAddr hw) (h w)
  · rfl

/-- The number that address `n` reads as. -/
def State.numberAt (s : State) (n : Nat) : Nat := (s.readAt (BitVec.ofNat 16 n)).toNat

theorem State.numberAt_of_value {s : State} {w : MgmtWord} {n v : Nat} (hv : (s.wordValue w).toNat = v)
    (h : w.address = n) : s.numberAt n = v := (congrArg _ (s.readAt_of_address h)).trans hv

section blocks
variable {s : State}

/-- Each position of the ring is a digit of its word (R45, R169). -/
theorem State.ring_digit (h : s.RingLaw) (i : Fin 8) :
    s.arb.ring[i.val]?.map Fin.val = some (s.numberAt 0x0007 / 16 ^ i.val % 16) := by
  have value : s.numberAt 0x0007 = _ := State.numberAt_of_value (State.ring_value h) rfl
  rw [value]
  exact wordOfRing_digit (i.isLt.trans_eq h.length.symm)

/-- The words of a port (R122). -/
theorem State.port_words (hc : s.CreditLaw) (ha : s.AnswerLaw) (p : Port) :
    s.numberAt (0x0100 + 16 * p.val) = (s.ports.get p).state.code + flagBit (s.ports.get p).linkUp 3
    ∧ s.numberAt (0x0100 + 16 * p.val + 1) = (s.ports.get p).creditLimit
    ∧ s.numberAt (0x0100 + 16 * p.val + 2) = (s.ports.get p).defaultAction.code
    ∧ s.numberAt (0x0100 + 16 * p.val + 3) = (s.ports.get p).hostCredits + 2 ^ 8 * (s.ports.get p).pendingCredits
    ∧ s.numberAt (0x0100 + 16 * p.val + 4) = s.storeEntries p + 2 ^ 8 * (s.ports.get p).outstanding.length
      + 2 ^ 16 * (s.ports.get p).queue.length := by
  obtain ⟨⟨-, limit⟩, -⟩ := hc.1 p
  have action := (s.ports.get p).defaultAction.code_lt
  exact ⟨numberAt_of_value (State.portState_value p) rfl,
    numberAt_of_value (w := .creditLimit p) (toNat_word (by omega)) (address_of_portWordAt rfl),
    numberAt_of_value (w := .defaultClass p) (toNat_word (by omega)) (address_of_portWordAt rfl),
    numberAt_of_value (State.portCredits_value hc p) (address_of_portWordAt rfl),
    numberAt_of_value (State.portLoad_value hc ha p) (address_of_portWordAt rfl)⟩

/-- The words of a class that hold one number or code (R38, R40, R99, R100, R53, R67). -/
theorem State.class_settings (hb : s.BudgetLaw) (ht : s.TenureLaw) (hm : s.MonitorLaw) (hs : s.SettingsLaw)
    (c : ClassId) :
    s.numberAt (0x0200 + 16 * c.val) = (s.classes.get c).mode.code
    ∧ s.numberAt (0x0200 + 16 * c.val + 1) = (s.classes.get c).allowance
    ∧ (s.readAt (BitVec.ofNat 16 (0x0200 + 16 * c.val + 2))).toInt = (s.classes.get c).budget
    ∧ s.numberAt (0x0200 + 16 * c.val + 3) = flagBit (s.classes.get c).admitOn 0
    ∧ s.numberAt (0x0200 + 16 * c.val + 4) = (s.classes.get c).depthLimit
    ∧ s.numberAt (0x0200 + 16 * c.val + 5) = (s.classes.get c).tenureLimit
    ∧ s.numberAt (0x0200 + 16 * c.val + 6) = (s.classes.get c).writtenWait := by
  obtain ⟨lower, upper, allowance⟩ := hb c
  obtain ⟨-, -, tenures⟩ := ht
  obtain ⟨-, tenure⟩ := tenures c
  obtain ⟨-, depths, -⟩ := hs
  obtain ⟨-, depth⟩ := depths c
  obtain ⟨-, -, -, -, -, -, -, written⟩ := hm.2 c
  have mode := (s.classes.get c).mode.code_lt
  have admission := flagBit_le (s.classes.get c).admitOn 0
  have budget : (s.wordValue (.budget c)).toInt = (s.classes.get c).budget :=
    toInt_word ⟨lower, upper.trans (by omega)⟩
  exact ⟨numberAt_of_value (w := .mode c) (toNat_word (by omega)) rfl,
    numberAt_of_value (w := .allowance c) (toNat_word (by omega)) (address_of_classWordAt rfl),
    (congrArg _ (s.readAt_of_address (address_of_classWordAt rfl))).trans budget,
    numberAt_of_value (w := .admitOn c) (toNat_word (by omega)) (address_of_classWordAt rfl),
    numberAt_of_value (w := .depthLimit c) (toNat_word (by omega)) (address_of_classWordAt rfl),
    numberAt_of_value (w := .tenureLimit c) (toNat_word (by omega)) (address_of_classWordAt rfl),
    numberAt_of_value (w := .waitLimit c) (toNat_word (by omega)) (address_of_classWordAt rfl)⟩

/-- The two words of a tag that is not FREE, by the code of its state and what is left of its time (R142). -/
theorem State.tag_words {d : DTag} {r : FlightRecord} {code left : Nat} (hc : code < 4)
    (hs : s.StoreLaw) (hr : (s.mem.table.get d).record = some r) (h0 : (s.mem.table.get d).word0 = r.viewWord code)
    (h1 : (BitVec.ofNat 32 (s.mem.table.get d).word1).toNat = left) :
    s.numberAt (0x0600 + 2 * d.val) = code + (2 ^ 2 * r.port.val + 2 ^ 4 * r.hostTag.toNat
      + flagBit (Decidable.decide (r.kind = .write)) 9 + 2 ^ 10 * r.length + 2 ^ 14 * r.cls.val)
    ∧ s.numberAt (0x0600 + 2 * d.val + 1) = left := by
  obtain ⟨-, -, records⟩ := hs
  obtain ⟨-, length⟩ := records d r hr
  have value : (s.wordValue (.inFlight d false)).toNat = (BitVec.ofNat 32 (r.viewWord code)).toNat :=
    congrArg (fun n => (BitVec.ofNat 32 n).toNat) h0
  exact ⟨numberAt_of_value (value.trans (FlightRecord.viewWord_eq hc length)) rfl,
    numberAt_of_value (w := .inFlight d true) h1 rfl⟩

/-- The words of a snapshot slot that holds a capture (R154). -/
theorem State.slot_words {c : ClassId} {v : Snapshot} (h : s.SlotLaw) (hv : (s.classes.get c).slot = some v) :
    (s.readAt (BitVec.ofNat 16 (0x0700 + 4 * c.val))).toInt = v.budget
    ∧ s.numberAt (0x0700 + 4 * c.val + 1) = v.queueLength
    ∧ s.numberAt (0x0700 + 4 * c.val + 2) = v.strikes.val + flagBit v.mark 2 + flagBit v.tenureFlag 3
      + 2 ^ 4 * v.tenureCount + 2 ^ 31
    ∧ s.readAt (BitVec.ofNat 16 (0x0700 + 4 * c.val + 3)) = v.epochCounter := by
  obtain ⟨budget, queue, -⟩ := h c v hv
  have value : ∀ k, s.wordValue (.slot c k) = slotWord (some v) k := fun k => congrArg (slotWord · k) hv
  have budget : (s.wordValue (.slot c 0)).toInt = v.budget := (congrArg _ (value 0)).trans (toInt_word budget)
  have queue : (s.wordValue (.slot c 1)).toNat = v.queueLength :=
    (congrArg _ (value 1)).trans (toNat_word (by omega))
  exact ⟨(congrArg _ (s.readAt_of_address rfl)).trans budget, numberAt_of_value queue rfl,
    numberAt_of_value (State.slotMonitor_value h hv) rfl, (s.readAt_of_address rfl).trans (value 3)⟩

theorem State.slot_words_free {c : ClassId} (h : (s.classes.get c).slot = none) (k : Fin 4) :
    s.numberAt (0x0700 + 4 * c.val + k.val) = 0 :=
  numberAt_of_value (w := .slot c k) (congrArg (fun v => (slotWord v k).toNat) h) rfl

/-- The words of a cause group (R151). -/
theorem State.group_words (g : GroupId) :
    s.numberAt (0x0900 + 4 * g.val) = (s.groups.get g).flags.toNat
    ∧ s.numberAt (0x0900 + 4 * g.val + 1) = (s.groups.get g).flags.toNat
    ∧ s.numberAt (0x0900 + 4 * g.val + 2) = (s.groups.get g).enables.toNat := by
  have wide : ∀ b : BitVec 8, (b.zeroExtend 32).toNat = b.toNat := fun b =>
    BitVec.toNat_setWidth_of_le (by decide)
  exact ⟨numberAt_of_value (w := .claim g) (wide _) rfl,
    numberAt_of_value (w := .peek g) (wide _) (address_of_groupWordAt rfl),
    numberAt_of_value (w := .enable g) (wide _) (address_of_groupWordAt rfl)⟩

end blocks

/-- Settles O54: each address is mapped to its word, and each word's value is its fields. -/
theorem observationWords : Obligations.ObservationWords := by
  intro s memory credit answer store budget slot ring tenure monitor epoch settings counter
  have ⟨⟨_, memLimit⟩, _, timeout, _, level⟩ := settings
  refine ⟨⟨s.readAt_of_address (w := .identity) rfl, State.numberAt_of_value (State.deviceConfig_value epoch) rfl,
    State.numberAt_of_value (State.status0_value memory) rfl, s.mem.count_states,
    s.readAt_of_address (w := .status1) rfl, State.numberAt_of_value (w := .memLimit) (toNat_word (by omega)) rfl,
    State.numberAt_of_value (w := .timeout) (toNat_word (by omega)) rfl,
    State.numberAt_of_value (w := .quarantineLevel) (toNat_word (by omega)) rfl, State.ring_digit ring,
    State.numberAt_of_value (w := .command) rfl rfl,
    fun h => State.numberAt_of_value (State.lastReject_value_none h) rfl,
    fun a r h => State.numberAt_of_value (State.lastReject_value h) rfl⟩,
    State.port_words credit answer, fun c => ?cls, fun b i => ?flow, fun d => ?tag,
    fun c => ⟨State.slot_words_free, fun v => State.slot_words slot⟩, fun n => ?counter, State.group_words,
    fun a => s.readAt_unmapped⟩
  case cls =>
    obtain ⟨mode, allowance, value, admission, depth, limit, wait⟩ :=
      State.class_settings budget tenure monitor settings c
    exact ⟨mode, allowance, value, admission, depth, limit, wait,
      State.numberAt_of_value (State.classState_value credit tenure c) (address_of_classWordAt rfl)⟩
  case flow =>
    exact ⟨State.numberAt_of_value (State.flowStreams_value b i) rfl,
      State.numberAt_of_value (State.flowBase_value b i) rfl,
      State.numberAt_of_value (State.flowLimit_value b i) rfl,
      State.numberAt_of_value (State.flowAction_value b i) rfl⟩
  case tag =>
    obtain ⟨-, -, -, remaining, -⟩ := memory
    have left := remaining d
    dsimp only
    cases h : s.mem.table.get d with
    | free =>
      exact ⟨State.numberAt_of_value (w := .inFlight d false) (by rw [State.wordValue, h]; rfl) rfl,
        State.numberAt_of_value (w := .inFlight d true) (by rw [State.wordValue, h]; rfl) rfl⟩
    | late r =>
      exact State.tag_words (by decide) store (by rw [h]; rfl) (by rw [h]; rfl) (by rw [h]; rfl)
    | inFlight r time | orphan r time =>
      refine State.tag_words (by decide) store (by rw [h]; rfl) (by rw [h]; rfl) ?_
      rw [h] at left ⊢
      cases time with
      | none => rfl
      | some n => exact remaining_value (left n rfl)
  case counter =>
    rw [State.readAt, decodeAddr_addr]
    exact toNat_word (Nat.lt_succ_of_le (counter n))

end Sys2Proof.Machine

/-! # Words that configure the arbiter, and words that hold one number (R46, R47, R53, R94 to R136) -/

namespace Sys2Proof.Machine

/-! ## The RING word (R47) -/

/-- The digits of a RING word that R47 accepts: eight different numbers of 0 to 7. -/
def RingDigits (w : Word) : Prop :=
  (∀ i : Fin 8, w.toNat / 16 ^ i.val % 16 < 8)
    ∧ ∀ i j : Fin 8, w.toNat / 16 ^ i.val % 16 = w.toNat / 16 ^ j.val % 16 → i = j

theorem bitsOf_nibble (n i : Nat) : bitsOf n (4 * i) 4 = n / 16 ^ i % 16 := by
  rw [bitsOf, Nat.pow_mul]
  rfl

/-- The model's test of a RING word is the manual's condition. -/
theorem ringTest_iff (w : Word) :
    (((List.range 8).map fun i => bitsOf w.toNat (4 * i) 4).all (· < 8)
      && decide ((List.range 8).map fun i => bitsOf w.toNat (4 * i) 4).Nodup) = true ↔ RingDigits w := by
  simp only [bitsOf_nibble, Bool.and_eq_true, List.all_map, List.all_eq_true, List.mem_range, Function.comp_apply,
    decide_eq_true_eq, List.nodup_map_iff_inj_on List.nodup_range, RingDigits, Fin.forall_iff, Fin.mk.injEq]

/-- The classes that the digits of a RING word name, position by position (R169). -/
def ringOfDigits (w : Word) : List ClassId := (List.range 8).map fun i => Fin.ofNat 8 (w.toNat / 16 ^ i % 16)

theorem ringOfWord_of_digits {w : Word} (h : RingDigits w) : ringOfWord w = some (ringOfDigits w) := by
  rw [ringOfWord, if_pos ((ringTest_iff w).mpr h), List.map_map]
  simp only [Function.comp_def, bitsOf_nibble, ringOfDigits]

theorem ringOfWord_of_not_digits {w : Word} (h : ¬RingDigits w) : ringOfWord w = none := by
  rw [ringOfWord, if_neg (mt (ringTest_iff w).mp h)]

theorem digits_of_ringOfWord {w : Word} {ring : List ClassId} (h : ringOfWord w = some ring) : RingDigits w := by
  by_contra hd
  rw [ringOfWord_of_not_digits hd] at h
  cases h

theorem ringOfDigits_length (w : Word) : (ringOfDigits w).length = 8 := by simp [ringOfDigits]

theorem ringOfDigits_digit {w : Word} (h : RingDigits w) (i : Fin 8) :
    (ringOfDigits w)[i.val]?.map Fin.val = some (w.toNat / 16 ^ i.val % 16) := by
  have hmod : w.toNat / 16 ^ i.val % 16 % 8 = w.toNat / 16 ^ i.val % 16 := Nat.mod_eq_of_lt (h.1 i)
  simpa [ringOfDigits, Fin.ofNat] using hmod

/-- Different digits of 0 to 7 name different classes. -/
theorem ringOfDigits_nodup {w : Word} (h : RingDigits w) : (ringOfDigits w).Nodup := by
  obtain ⟨below, different⟩ := h
  rw [ringOfDigits, List.nodup_map_iff_inj_on List.nodup_range]
  intro i hi j hj heq
  rw [List.mem_range] at hi hj
  have hdigit : w.toNat / 16 ^ i % 16 = w.toNat / 16 ^ j % 16 := by
    simpa [Fin.ofNat, Nat.mod_eq_of_lt (below ⟨i, hi⟩), Nat.mod_eq_of_lt (below ⟨j, hj⟩)] using heq
  exact congrArg Fin.val (different ⟨i, hi⟩ ⟨j, hj⟩ hdigit)

/-- Eight different classes are all the classes. -/
theorem mem_of_nodup_of_length {ring : List ClassId} (hn : ring.Nodup) (hl : ring.length = 8) (c : ClassId) :
    c ∈ ring := by
  have huniv : ring.toFinset = Finset.univ :=
    Finset.eq_univ_of_card _ (by rw [List.toFinset_card_of_nodup hn, hl, Fintype.card_fin])
  rw [← List.mem_toFinset, huniv]
  exact Finset.mem_univ c

/-- An accepted RING word gives a permutation of the classes (R45, R47). -/
theorem perm_of_ringOfWord {w : Word} {ring : List ClassId} (h : ringOfWord w = some ring) :
    ring.Nodup ∧ ∀ c, c ∈ ring := by
  have hd := digits_of_ringOfWord h
  rw [ringOfWord_of_digits hd] at h
  cases h
  have nodup := ringOfDigits_nodup hd
  exact ⟨nodup, mem_of_nodup_of_length nodup (ringOfDigits_length w)⟩

/-- Settles O10: the digits of an accepted word are the ring, position by position. -/
theorem ringWrites : Obligations.RingWrites := by
  intro w s hw
  refine ⟨fun hd => ⟨ringOfDigits w, ringOfDigits_length w, ringOfDigits_digit hd,
      congrArg Host.Outcome.next ?accepted⟩,
    fun hd => congrArg Host.Outcome.next ?refused⟩
  case accepted =>
    refine s.writeWord_accepted (w := .ring) hw nofun ?_ rfl
    rw [ownRing, ringOfWord_of_digits hd]
    rfl
  case refused =>
    refine s.writeWord_refused (w := .ring) hw nofun ?_
    rw [ownRing, ringOfWord_of_not_digits hd]

/-! ## SET_LOWEST (R46) -/

/-- Settles O20: the ring is split where the class stands, and its two parts change places. -/
theorem setLowestRotates : Obligations.SetLowestRotates := by
  intro arg s hw
  refine ⟨fun h => congrArg Host.Outcome.next (s.writeCommand_refused hw (onClass_of_ge h)),
    fun c above below hc hring habove => ?_⟩
  rw [← rotateLast_split habove, ← hring]
  exact congrArg Host.Outcome.next (s.writeCommand_accepted hw (onClass_of_lt hc) rfl)

/-! ## Words that hold one number or code -/

/-- A word off COMMAND whose owner makes one check: set where the check holds, refused with BAD_VALUE where not. -/
theorem State.writeWord_checked {s t : State} {w : MgmtWord} {own : State → Except Reject State} {ok : Bool} {p : Prop}
    [Decidable p] (hw : s.WritingAt w.addr) (hc : w ≠ .command) (hown : own s = accept ok .badValue t)
    (hok : ok = true ↔ p) (hm : t.mgmt = s.mgmt) :
    s.writeWord w own = if p then t.wordPassed else (s.wordRefused .badValue).wordPassed := by
  rw [accept] at hown
  split
  · next hp => exact s.writeWord_accepted hw hc (by rw [hown, if_pos (hok.mpr hp)]) hm
  · next hp => exact s.writeWord_refused hw hc (by rw [hown, if_neg (mt hok.mp hp)])

/-- The code of an action names it (R169). -/
theorem actionOfCode_code (a : Action) : actionOfCode a.code = some a := by
  cases a with
  | cls c => simp [Action.code, actionOfCode, c.isLt]
  | deny => rfl

theorem actionOfCode_of_gt {n : Nat} (h : 8 < n) : actionOfCode n = none := by
  rw [actionOfCode, if_neg (by omega), if_neg (by omega)]

/-- DEFAULT_CLASS with the code of an action (R94). -/
theorem exec_defaultClassWrite {s : State} {p : Port} {w : Word} {a : Action}
    (hw : s.WritingAt (MgmtWord.defaultClass p).addr) (ha : w.toNat = a.code) :
    exec (.defaultClassWrite p w) s =
      .next (s.withPort p { s.ports.get p with defaultAction := a }).wordPassed :=
  congrArg Host.Outcome.next
    (s.writeWord_accepted hw nofun (by rw [ownDefaultClass, ha, actionOfCode_code]; rfl) rfl)

/-- Settles O7: each word's owner makes one check of the number, or looks up the code of an action. -/
theorem numberWordWrites : Obligations.NumberWordWrites := by
  intro c p w s
  have range : ∀ {low high : Nat}, (decide (low ≤ w.toNat) && decide (w.toNat ≤ high)) = true
      ↔ low ≤ w.toNat ∧ w.toNat ≤ high := by
    simp
  refine ⟨fun hw => congrArg Host.Outcome.next ?admission, fun hw => congrArg Host.Outcome.next ?depth,
    fun hw => congrArg Host.Outcome.next ?tenure, fun hw => ⟨fun d hd => ?cls, fun hd => ?deny, fun hd => ?noAction⟩,
    fun hw => congrArg Host.Outcome.next ?memLimit, fun hw => congrArg Host.Outcome.next ?timeout,
    fun hw => congrArg Host.Outcome.next ?level⟩
  case admission => exact s.writeWord_checked (w := .admitOn c) hw nofun rfl decide_eq_true_iff rfl
  case depth => exact s.writeWord_checked (w := .depthLimit c) hw nofun rfl range rfl
  case tenure => exact s.writeWord_checked (w := .tenureLimit c) hw nofun rfl range rfl
  case cls => exact exec_defaultClassWrite (a := .cls d) hw hd
  case deny => exact exec_defaultClassWrite (a := .deny) hw hd
  case noAction =>
    refine congrArg Host.Outcome.next (s.writeWord_refused (w := .defaultClass p) hw nofun ?_)
    rw [ownDefaultClass, actionOfCode_of_gt hd]
  case memLimit => exact s.writeWord_checked (w := .memLimit) hw nofun rfl range rfl
  case timeout => exact s.writeWord_checked (w := .timeout) hw nofun rfl decide_eq_true_iff rfl
  case level => exact s.writeWord_checked (w := .quarantineLevel) hw nofun rfl range rfl

end Sys2Proof.Machine


/-! # The choice of a decision (R49, R50, R52, R64) -/

namespace Sys2Proof.Machine

/-- Step 1 chooses the first class of the escape list with a READY head (R49, R64). -/
theorem State.first_of_choose_escape {s : State} {c : ClassId} (h : s.choose = some (c, .escape)) :
    s.escapeList.find? s.headReady = some c := by
  unfold State.choose State.chooseNormal at h
  split at h
  · next x hx =>
    cases h
    exact hx
  · split at h
    · cases h
    · simp at h

/-- An escape grant goes to the earliest marked escape candidate (R49, R64). -/
theorem State.earliest_of_choose_escape {s : State} {c : ClassId} (h : s.choose = some (c, .escape)) :
    ∃ before after, s.escapeList = before ++ c :: after ∧ ∀ x ∈ before, ¬s.Ready x := by
  obtain ⟨-, first, -⟩ := find_first (State.first_of_choose_escape h)
  simpa only [State.headReady_iff] using first

/-- A decision grants an escape exactly where a class is an escape candidate (R49). -/
theorem State.choose_escape_iff {s : State} {c : ClassId} {kind : GrantKind}
    (hc : s.settleTenure.choose = some (c, kind)) : kind = .escape ↔ ∃ x, s.Escaping x := by
  constructor
  · rintro rfl
    exact ⟨c, (s.settleTenure_escaping c).mp (State.escaping_of_choose hc)⟩
  · rintro ⟨x, hx⟩
    by_contra hk
    exact State.not_escaping_of_choose hc hk x ((s.settleTenure_escaping x).mpr hx)

/-- A tenure continues while its holder is eligible, its count is below its limit and no class above it is eligible
(R49 step 2). -/
theorem State.tenureContinues_iff (s : State) (h : ClassId) :
    s.tenureContinues h = true ↔ s.Eligible h ∧ s.arb.count < (s.classes.get h).tenureLimit
      ∧ ∀ x ∈ s.arb.ring.takeWhile (· ≠ h), ¬s.Eligible x := by
  simp only [State.tenureContinues, rankedAbove, Bool.and_eq_true, State.eligible_iff, decide_eq_true_eq,
    List.all_eq_true, Bool.not_eq_true', ← Bool.not_eq_true, and_assoc]

/-- A tenure that continues is what is granted (R49 step 2). -/
theorem State.eq_holder_of_chooseNormal {s : State} {c h : ClassId} {kind : GrantKind}
    (hc : s.chooseNormal = some (c, kind)) (hh : s.arb.holder = some h) (ht : s.tenureContinues h = true) : c = h := by
  unfold State.chooseNormal at hc
  rw [hh, Option.filter_some_pos ht] at hc
  cases hc
  rfl

/-- Where no tenure continues, no class ranked above the chosen one is eligible (R49 step 3). -/
theorem State.highest_of_chooseNormal {s : State} {c : ClassId} {kind : GrantKind}
    (hc : s.chooseNormal = some (c, kind)) (hn : ∀ h, s.arb.holder = some h → s.tenureContinues h = false) :
    ∀ x ∈ s.arb.ring.takeWhile (· ≠ c), ¬s.Eligible x := by
  cases kind with
  | escape => unfold State.chooseNormal at hc; split at hc <;> simp at hc
  | continued =>
    obtain ⟨hholder, hcontinues⟩ := State.continues_of_chooseNormal hc
    rw [hn c hholder] at hcontinues
    cases hcontinues
  | begun =>
    obtain ⟨hfind, -⟩ := State.begins_of_chooseNormal hc
    obtain ⟨-, -, highest⟩ := find_first hfind
    simpa only [State.eligible_iff] using highest

/-- A tenure that does not end before the choice leaves the state as it is (R50). -/
theorem State.settleTenure_of_not_ends {s : State} (h : ¬s.TenureEndsFirst) : s.settleTenure = s :=
  if_neg (mt s.tenureStale_iff.mp h)

/-- A tenure that stands, for a holder in the terms of the statements. -/
theorem State.not_tenureEndsFirst {s : State} {h : ClassId} (hh : s.arb.holder = some h) (he : s.Eligible h)
    (hl : s.arb.count < (s.classes.get h).tenureLimit) : ¬s.TenureEndsFirst := by
  rintro ⟨x, hx, hends⟩
  cases hh.symm.trans hx
  rcases hends with hn | hle
  · exact hn he
  · omega

theorem Arbiter.ended_ring {a : Arbiter} {h : ClassId} (hh : a.holder = some h) :
    a.ended.ring = if a.mode = .rotate then a.ring.filter (· ≠ h) ++ [h] else a.ring := by
  rw [Arbiter.ended, hh]

/-- The class of a normal grant, by the tenure at the decision (R49, R50, R52). -/
theorem State.normal_choice {s : State} {c : ClassId} {kind : GrantKind}
    (hc : s.settleTenure.chooseNormal = some (c, kind)) :
    (∀ h, s.arb.holder = some h → s.Eligible h → s.arb.count < (s.classes.get h).tenureLimit →
        (∀ x ∈ s.arb.ring.takeWhile (· ≠ h), ¬s.Eligible x) → c = h)
    ∧ (∀ h, s.arb.holder = some h → s.Eligible h → s.arb.count < (s.classes.get h).tenureLimit →
        (∃ x ∈ s.arb.ring.takeWhile (· ≠ h), s.Eligible x) →
        ∀ x ∈ s.arb.ring.takeWhile (· ≠ c), ¬s.Eligible x)
    ∧ (∀ h, s.arb.holder = some h → ¬(s.Eligible h ∧ s.arb.count < (s.classes.get h).tenureLimit) →
        ∀ x ∈ (if s.arb.mode = .rotate then s.arb.ring.filter (· ≠ h) ++ [h] else s.arb.ring).takeWhile (· ≠ c),
          ¬s.Eligible x)
    ∧ (s.arb.holder = none → ∀ x ∈ s.arb.ring.takeWhile (· ≠ c), ¬s.Eligible x) := by
  refine ⟨fun h hh he hl habove => ?continues, fun h hh he hl ⟨x, hx, hxe⟩ => ?outranked, fun h hh hends => ?ended,
    fun hh => ?none⟩
  case continues =>
    rw [State.settleTenure_of_not_ends (State.not_tenureEndsFirst hh he hl)] at hc
    exact State.eq_holder_of_chooseNormal hc hh ((s.tenureContinues_iff h).mpr ⟨he, hl, habove⟩)
  case outranked =>
    rw [State.settleTenure_of_not_ends (State.not_tenureEndsFirst hh he hl)] at hc
    refine State.highest_of_chooseNormal hc fun y hy => Bool.eq_false_iff.mpr fun hcontinues => ?_
    cases hh.symm.trans hy
    obtain ⟨-, -, habove⟩ := (s.tenureContinues_iff h).mp hcontinues
    exact habove x hx hxe
  case ended =>
    have first : s.TenureEndsFirst := ⟨h, hh, by rwa [not_and_or, not_lt] at hends⟩
    have arb : s.settleTenure.arb = s.arb.ended := s.settleTenure_arb_iff.1 first
    have highest := State.highest_of_chooseNormal hc fun y hy => by
      rw [arb, Arbiter.ended_holder] at hy
      cases hy
    rw [arb, Arbiter.ended_ring hh] at highest
    simpa only [State.settleTenure_eligible] using highest
  case none =>
    rw [State.settleTenure_of_not_ends fun ⟨y, hy, _⟩ => by rw [hh] at hy; cases hy] at hc
    exact State.highest_of_chooseNormal hc fun y hy => by rw [hh] at hy; cases hy

/-- Settles O33: a decision that is due grants the class it chooses on the settled tenure. -/
theorem decisionsChoose : Obligations.DecisionsChoose := by
  intro s hd hr
  obtain ⟨c, kind, e, d, hg⟩ := State.grantee_of_decisionDue hd hr
  have hrun := exec_grantDecision hd hg
  obtain ⟨hc, he, hfree⟩ := State.grantee_eq_some.mp hg
  rw [State.grant_eq] at hrun
  rw [State.settleTenure_frame] at he hfree
  obtain ⟨htag, hlower⟩ := MemPort.lowestFree_eq_some hfree
  have hescape := State.choose_escape_iff hc
  refine ⟨_, c, e, d, hrun, he, rfl, rfl, htag, hlower, fun hx => ?escape, fun hx => ?normal⟩
  case escape =>
    cases hescape.mpr hx
    have earliest := State.earliest_of_choose_escape hc
    rw [State.settleTenure_frame] at earliest
    exact ⟨(s.settleTenure_escaping c).mp (State.escaping_of_choose hc), earliest⟩
  case normal =>
    have hnormal := State.chooseNormal_of_choose hc (mt hescape.mp hx)
    have heligible := (State.eligible_iff _ c).mp (State.eligible_of_chooseNormal hnormal)
    exact ⟨(s.settleTenure_eligible c).mp heligible, State.normal_choice hnormal⟩

end Sys2Proof.Machine


/-! # The laws of the arbiter (R45, R51)

What a command can make of the ring, the tenure record and the tenure limits, said once for all commands; the law of the
ring and the law of the tenure are then one condition on the arbiter's record, which each of these moves keeps. -/

namespace Sys2Proof.Machine

/-! ## The laws as a condition on the arbiter's record -/

/-- The ring is a permutation of the classes (R45), and the tenure record is in its ranges (R51). -/
structure Arbiter.Sound (a : Arbiter) : Prop where
  nodup : a.ring.Nodup
  full : ∀ c, c ∈ a.ring
  idle : a.holder = none → a.count = 0
  held : ∀ c, a.holder = some c → 1 ≤ a.count ∧ a.count ≤ 16

/-- The two laws together are the arbiter's condition and the range of the tenure limits. -/
theorem State.arbiterLaws_iff (s : State) :
    s.RingLaw ∧ s.TenureLaw
      ↔ s.arb.Sound ∧ ∀ c, 1 ≤ (s.classes.get c).tenureLimit ∧ (s.classes.get c).tenureLimit ≤ 16 :=
  ⟨fun ⟨⟨nodup, full⟩, idle, held, limits⟩ => ⟨⟨nodup, full, idle, held⟩, limits⟩,
    fun ⟨⟨nodup, full, idle, held⟩, limits⟩ => ⟨⟨nodup, full⟩, idle, held, limits⟩⟩

section sound
variable {a : Arbiter} (h : a.Sound)
include h

/-- A new ring that holds the classes of the old one. -/
theorem Arbiter.Sound.ring_perm {ring : List ClassId} (hp : ring.Perm a.ring) :
    ({ a with ring := ring } : Arbiter).Sound :=
  ⟨hp.nodup_iff.mpr h.nodup, fun c => hp.mem_iff.mpr (h.full c), h.idle, h.held⟩

/-- The tenure record without a holder (R51). -/
theorem Arbiter.Sound.dropped : ({ a with holder := none, count := 0 } : Arbiter).Sound :=
  ⟨h.nodup, h.full, fun _ => rfl, nofun⟩

/-- The tenure record of a holder with a count in its range (R51). -/
theorem Arbiter.Sound.holding (c : ClassId) {n : Nat} (hn : 1 ≤ n ∧ n ≤ 16) :
    ({ a with holder := some c, count := n } : Arbiter).Sound :=
  ⟨h.nodup, h.full, nofun, fun _ _ => hn⟩

/-- The end of a tenure keeps every class in the ring once (R48, R52). -/
theorem Arbiter.Sound.endTenure : a.endTenure.Sound := by
  unfold Arbiter.endTenure
  split
  · exact h
  · next c _ =>
    split
    · exact h.dropped
    · exact (h.ring_perm (moveLast_perm h.nodup (h.full c))).dropped

theorem Arbiter.Sound.endAtLimit (limit : Nat) : (a.endAtLimit limit).Sound := by
  unfold Arbiter.endAtLimit
  split
  · exact h.endTenure
  · exact h

/-- A grant keeps the record in its ranges: a tenure is continued below its limit, which is at most 16 (R51, R52). -/
theorem Arbiter.Sound.afterGrant {c : ClassId} {kind : GrantKind} {limit : Nat} (hl : limit ≤ 16)
    (hc : kind = .continued → a.holder = some c ∧ a.count < limit) : (a.afterGrant c kind limit).Sound := by
  cases kind with
  | escape => exact h.endTenure
  | continued =>
    obtain ⟨hholder, hcount⟩ := hc rfl
    have raised := h.holding c (n := a.count + 1) (by omega)
    rw [← hholder] at raised
    exact raised.endAtLimit limit
  | begun => exact (h.endTenure.holding c (n := 1) (by decide)).endAtLimit limit

end sound

theorem Arbiter.powerOn_sound : Arbiter.powerOn.Sound :=
  have ⟨sound, _⟩ := (State.powerOn false).arbiterLaws_iff.mp
    ⟨State.powerOn_ringLaw false, State.powerOn_tenureLaw false⟩
  sound

/-! ## Moves of the arbiter -/

/-- What a command can make of the arbiter: it stands, takes the word of a setting (R47, R48), is rotated (R46), loses
its tenure at a TRAFFIC_RESET (R59), is settled or granted at a decision (R50 to R52), or is powered on (R58). -/
inductive ArbiterMove (s : State) : Arbiter → Prop
  | kept : ArbiterMove s s.arb
  | mode (m : ArbMode) : ArbiterMove s { s.arb with mode := m }
  | ring (w : Word) (r : List ClassId) (hr : ringOfWord w = some r) : ArbiterMove s { s.arb with ring := r }
  | rotated (c : ClassId) : ArbiterMove s { s.arb with ring := rotateLast s.arb.ring c }
  | dropped : ArbiterMove s { s.arb with holder := none, count := 0 }
  | settled : ArbiterMove s s.settleTenure.arb
  | granted (c : ClassId) (kind : GrantKind) (hc : s.settleTenure.choose = some (c, kind)) :
    ArbiterMove s (s.settleTenure.arb.afterGrant c kind (s.classes.get c).tenureLimit)
  | poweredOn : ArbiterMove s .powerOn

/-- What a command can do to the arbiter and to the tenure limits: a limit stands, or takes a value of its range
(R53). -/
structure TenureMove (s t : State) : Prop where
  arb : ArbiterMove s t.arb
  limits : ∀ c, (t.classes.get c).tenureLimit = (s.classes.get c).tenureLimit
    ∨ 1 ≤ (t.classes.get c).tenureLimit ∧ (t.classes.get c).tenureLimit ≤ 16

theorem State.settleTenure_sound {s : State} (h : s.arb.Sound) : s.settleTenure.arb.Sound := by
  unfold State.settleTenure
  split
  · exact h.endTenure
  · exact h

/-- Each move of the arbiter keeps its condition. -/
theorem ArbiterMove.sound {s : State} {a : Arbiter} (h : ArbiterMove s a) (hs : s.arb.Sound)
    (hl : ∀ c, (s.classes.get c).tenureLimit ≤ 16) : a.Sound := by
  cases h with
  | kept => exact hs
  | mode m => exact ⟨hs.nodup, hs.full, hs.idle, hs.held⟩
  | ring w r hr =>
    obtain ⟨nodup, full⟩ := perm_of_ringOfWord hr
    exact ⟨nodup, full, hs.idle, hs.held⟩
  | rotated c => exact hs.ring_perm (rotateLast_perm (hs.full c))
  | dropped => exact hs.dropped
  | settled => exact State.settleTenure_sound hs
  | granted c kind hc =>
    refine (State.settleTenure_sound hs).afterGrant (hl c) ?_
    rintro rfl
    have hnormal := State.chooseNormal_of_choose hc (by decide)
    obtain ⟨hholder, hcontinues⟩ := State.continues_of_chooseNormal hnormal
    obtain ⟨-, hcount, -⟩ := (State.tenureContinues_iff _ c).mp hcontinues
    rw [s.settleTenure_untouched.classes] at hcount
    exact ⟨hholder, hcount⟩
  | poweredOn => exact Arbiter.powerOn_sound

/-! ## Effects elsewhere -/

/-- An effect that leaves the arbiter and the tenure limits alone. -/
structure TenureKept (s t : State) : Prop where
  arb : t.arb = s.arb
  limits : ∀ c, (t.classes.get c).tenureLimit = (s.classes.get c).tenureLimit

namespace TenureKept
variable {s t u : State}

theorem trans (h : TenureKept s t) (g : TenureKept t u) : TenureKept s u :=
  ⟨g.arb.trans h.arb, fun c => (g.limits c).trans (h.limits c)⟩

theorem ite {p : Prop} [Decidable p] (ht : TenureKept s t) (hu : TenureKept s u) :
    TenureKept s (if p then t else u) := by
  split
  · exact ht
  · exact hu

theorem of_eq (ha : t.arb = s.arb) (hc : t.classes = s.classes) : TenureKept s t := ⟨ha, fun c => by rw [hc]⟩

/-- A class that keeps its tenure limit, the others standing. -/
theorem updClass {c : ClassId} {f : ClassRec → ClassRec}
    (hf : (f (s.classes.get c)).tenureLimit = (s.classes.get c).tenureLimit) : TenureKept s (s.updClass c f) :=
  ⟨rfl, fun x => by
    rw [State.updClass_classes, Table.get_put]
    split
    · next hx => rw [hf, hx]
    · rfl⟩

theorem updClasses {f : ClassId → ClassRec → ClassRec}
    (hf : ∀ c, (f c (s.classes.get c)).tenureLimit = (s.classes.get c).tenureLimit) :
    TenureKept s (s.updClasses f) :=
  ⟨rfl, fun c => by rw [State.updClasses_classes, Table.get_build, hf]⟩

/-- Classes that keep all but their wait clocks and strikes. -/
theorem of_sameButClock (ha : t.arb = s.arb) (hc : ∀ c, (s.classes.get c).SameButClock (t.classes.get c)) :
    TenureKept s t :=
  ⟨ha, fun c => (congrArg ClassRec.tenureLimit (hc c) :)⟩

end TenureKept

theorem TenureMove.of_kept {s t : State} (h : TenureKept s t) : TenureMove s t :=
  ⟨by rw [h.arb]; exact .kept, fun c => .inl (h.limits c)⟩

/-- What follows a move outside the arbiter and the tenure limits. -/
theorem TenureMove.trans_kept {s t u : State} (h : TenureMove s t) (g : TenureKept t u) : TenureMove s u :=
  ⟨by rw [g.arb]; exact h.arb, fun c => by rw [g.limits c]; exact h.limits c⟩

section kept
variable (s : State)

/-! Host ports. -/

theorem State.portLinkUp_tenureKept (p : Port) : TenureKept s (s.portLinkUp p) := by
  unfold State.portLinkUp
  cases (s.ports.get p).state <;> exact .of_eq rfl rfl

theorem State.removeHeld_tenureKept (gone : StoreEntry → Bool) : TenureKept s (s.removeHeld gone) :=
  .of_sameButClock rfl (s.abortHeld_clock gone)

theorem State.cutPort_tenureKept (p : Port) : TenureKept s (s.cutPort p) :=
  (s.removeHeld_tenureKept _).trans (.of_eq rfl rfl)

theorem State.portLinkLost_tenureKept (p : Port) : TenureKept s (s.portLinkLost p) :=
  (s.cutPort_tenureKept p).trans (.ite (.of_eq rfl rfl) (.of_eq rfl rfl))

theorem State.responseSent_tenureKept (p : Port) : TenureKept s (s.responseSent p) :=
  .ite (.of_eq rfl rfl) (.of_eq rfl rfl)

theorem State.openPort_tenureKept {p : Port} {t : State} (h : s.openPort p = .ok t) : TenureKept s t := by
  unfold State.openPort at h
  split at h
  · cases h; exact .of_eq rfl rfl
  · cases h; exact .ite (.of_eq rfl rfl) (.of_eq rfl rfl)
  · cases h

theorem State.closePort_tenureKept {p : Port} {t : State} (h : s.closePort p = .ok t) : TenureKept s t := by
  unfold State.closePort at h
  split at h
  · cases h; exact .ite (.of_eq rfl rfl) (.of_eq rfl rfl)
  · cases h; exact .of_eq rfl rfl
  · cases h

theorem State.resetPort_tenureKept {p : Port} {t : State} (h : s.resetPort p = .ok t) : TenureKept s t := by
  unfold State.resetPort at h
  split at h
  · cases h
  · cases h; exact (s.cutPort_tenureKept p).trans (.ite (.of_eq rfl rfl) (.of_eq rfl rfl))

theorem State.refuseInClass_tenureKept (reason : RefusalReason) (c : ClassId) :
    TenureKept s (s.refuseInClass reason c) := by
  have counted : TenureKept s (s.updClass c fun k => { k with classRefusals := bump k.classRefusals 1 }) :=
    .updClass rfl
  cases reason with
  | classFull => exact counted.trans (.of_eq rfl rfl)
  | _ => exact counted

theorem State.refuseRequest_tenureKept (p : Port) (tag : HostTag) (reason : RefusalReason) (cls : Option ClassId) :
    TenureKept s (s.refuseRequest p tag reason cls) := by
  cases cls with
  | none => exact .of_eq rfl rfl
  | some c =>
    have answered : TenureKept s ((s.updPort p fun k =>
        ({ k with requestsRefused := bump k.requestsRefused 1 }.enqueue ⟨tag, .refused reason⟩).returnCredits 1).raise
          (.port p .refusal)) := .of_eq rfl rfl
    exact answered.trans (State.refuseInClass_tenureKept _ reason c)

theorem State.takeRequest_tenureKept (e : StoreEntry) : TenureKept s (s.takeRequest e) := by
  have restarted : TenureKept s (s.updClass e.cls ClassRec.restartClock) := .updClass rfl
  rw [State.takeRequest_eq]
  refine ⟨rfl, fun c => ?_⟩
  dsimp only
  split
  · exact restarted.limits c
  · rfl

/-! The memory port. -/

theorem State.freeIssuing_tenureKept : TenureKept s s.freeIssuing := by
  unfold State.freeIssuing
  split <;> exact .of_eq rfl rfl

theorem State.clearDownstream_tenureKept : TenureKept s s.clearDownstream :=
  .of_sameButClock (by rw [State.clearDownstream_frame]) s.resetDownstream_clock

theorem State.answerInFlight_tenureKept (d : DTag) (r : FlightRecord) (k : MemPacket) :
    TenureKept s (s.answerInFlight d r k) := .ite (.of_eq rfl rfl) (.ite (.of_eq rfl rfl) (.of_eq rfl rfl))

theorem State.memoryResponse_tenureKept (k : MemPacket) : TenureKept s (s.memoryResponse k) := by
  unfold State.memoryResponse
  split
  · exact s.answerInFlight_tenureKept ..
  all_goals exact .of_eq rfl rfl

theorem State.memoryPacket_tenureKept (k : MemPacket) : TenureKept s (s.memoryPacket k) := by
  unfold State.memoryPacket
  split
  · exact s.memoryResponse_tenureKept k
  · exact s.memoryResponse_tenureKept k
  · exact s.memoryResponse_tenureKept k
  · exact .ite (.of_eq rfl rfl) (.of_eq rfl rfl)
  · exact .of_eq rfl rfl

theorem State.memoryLinkUp_tenureKept (n : Nat) : TenureKept s (s.memoryLinkUp n) :=
  .ite (.of_eq rfl rfl) (.of_eq rfl rfl)

theorem State.timeOut_tenureKept (d : DTag) : TenureKept s (s.timeOut d) := by
  unfold State.timeOut
  split
  · exact .ite (.of_eq rfl rfl) (.of_eq rfl rfl)
  · exact .ite (.of_eq rfl rfl) (.of_eq rfl rfl)
  · exact .of_eq rfl rfl

/-! Classes and the management link. -/

theorem State.setWaitLimit_tenureKept (c : ClassId) (n : Nat) : TenureKept s (s.setWaitLimit c n) := by
  have off : TenureKept s (s.updClass c fun k => { k.stopClock with writtenWait := 0, activeWait := 0 }) :=
    .updClass rfl
  exact .ite (off.trans (.of_eq rfl rfl)) (.ite (.updClass rfl) (.updClass rfl))

theorem State.clearCounter_tenureKept (n : CounterId) : TenureKept s (s.clearCounter n) := by
  cases n with
  | grants c => exact .updClass (f := fun k => { k with grants := 0 }) rfl
  | grantedUnits c => exact .updClass (f := fun k => { k with grantedUnits := 0 }) rfl
  | escapeGrants c => exact .updClass (f := fun k => { k with escapeGrants := 0 }) rfl
  | classRefusals c => exact .updClass (f := fun k => { k with classRefusals := 0 }) rfl
  | _ => exact .of_eq rfl rfl

theorem State.snapshot_tenureKept (classes : Byte) : TenureKept s (s.snapshot classes) :=
  .updClasses fun c => by split <;> rfl

theorem State.epochBoundary_tenureKept : TenureKept s s.epochBoundary :=
  ⟨rfl, fun c => by rw [State.epochBoundary_class, ClassRec.atBoundary_eq]⟩

theorem State.midEpochPoint_tenureKept : TenureKept s s.midEpochPoint :=
  ⟨rfl, fun c => by rw [State.midEpochPoint_class, ClassRec.atMidEpoch_eq]⟩

theorem State.frameEdge_tenureKept : TenureKept s s.frameEdge :=
  ⟨rfl, fun c => by rw [State.frameEdge_class, ClassRec.atFrame_eq]⟩

theorem State.captureAt_tenureKept (a : Addr) : TenureKept s (s.captureAt a) := by
  unfold State.captureAt State.captureWord
  split <;> exact .of_eq rfl rfl

theorem State.takeAddress_tenureKept (a : Addr) : TenureKept s (s.takeAddress a) := by
  unfold State.takeAddress
  split
  · have addressed : ∀ f, TenureKept s (s.updMgmt f) := fun _ => .of_eq rfl rfl
    exact (addressed _).trans (State.captureAt_tenureKept _ a)
  · exact .of_eq rfl rfl
  · exact .of_eq rfl rfl

theorem State.closeFrame_tenureKept : TenureKept s s.closeFrame := by
  unfold State.closeFrame State.abandonClaim
  split <;> exact .of_eq rfl rfl

/-- A base tick moves the timers alone (R34, R61, R131). -/
theorem State.tick_tenureKept : TenureKept s s.tick := by
  by_cases hr : s.pins.rstLow = true
  · rw [State.tick, if_neg (by simp [State.awake, hr])]
    exact .of_eq rfl rfl
  · rw [State.tick_of_awake (Bool.eq_false_iff.mpr hr), State.readTick_frame]
    exact ⟨rfl, fun c => by rw [Table.get_build, State.tickClass_eq]⟩

end kept

/-! ## Every command -/

/-- TRAFFIC_RESET ends the tenure and keeps the ring and the limits (R59). -/
theorem State.trafficReset_tenureMove (s : State) : TenureMove s s.trafficReset where
  arb := by
    have same := s.resetTraffic_same (Config.storePartFirst s.freeIndex)
    have arb : s.trafficReset.arb = { s.arb with holder := none, count := 0 } :=
      (congrArg (fun t => ({ t.arb with holder := none, count := 0 } : Arbiter)) same :)
    rw [arb]
    exact .dropped
  limits c := .inl (by rw [State.trafficReset_class])

/-- A grant moves the arbiter by its kind and keeps the tenure limits (R51, R52). -/
theorem State.grant_tenureMove {s : State} {c : ClassId} {kind : GrantKind} {e : StoreEntry} {d : DTag}
    (hg : s.settleTenure.grantee = some ((c, kind), e, d)) : TenureMove s (s.settleTenure.grant c kind e d) := by
  have classes := s.settleTenure_untouched.classes
  obtain ⟨hc, -⟩ := State.grantee_eq_some.mp hg
  rw [State.grant_eq, classes]
  have kept : TenureKept s (s.updClass c (·.granted kind e.length)) := .updClass rfl
  exact ⟨.granted c kind hc, fun x => .inl (kept.limits x)⟩

theorem State.atPowerOn_tenureMove (s : State) (b : Bool) : TenureMove s (s.atPowerOn b) := by
  obtain ⟨-, -, limits⟩ := State.powerOn_tenureLaw b
  exact ⟨.poweredOn, fun c => .inr (limits c)⟩

/-- An accepted TENURE_LIMIT sets a limit of its range (R53). -/
theorem TenureMove.tenureLimit {s : State} (c : ClassId) {n : Nat} (hn : 1 ≤ n ∧ n ≤ 16) :
    TenureMove s (s.updClass c fun k => { k with tenureLimit := n }) :=
  ⟨.kept, fun x => by
    rw [State.updClass_classes, Table.get_put]
    split
    · exact .inr hn
    · exact .inl rfl⟩

/-- What an accepted word can do to the arbiter and the tenure limits. -/
theorem Accepted.tenureMove {s t : State} (h : Accepted s t) : TenureMove s t := by
  cases h with
  | mode | allowance | admission | depthLimit | reloadClass => exact .of_kept (TenureKept.updClass rfl)
  | tenureLimit c n hn => exact .tenureLimit c hn
  | waitLimit c n => exact .of_kept (s.setWaitLimit_tenureKept c n)
  | deviceConfig n m => exact ⟨.mode m, fun _ => .inl rfl⟩
  | ring w r hr => exact ⟨.ring w r hr, fun _ => .inl rfl⟩
  | setLowest c => exact ⟨.rotated c, fun _ => .inl rfl⟩
  | counter n => exact .of_kept (s.clearCounter_tenureKept n)
  | openPort p h => exact .of_kept (s.openPort_tenureKept h)
  | closePort p h => exact .of_kept (s.closePort_tenureKept h)
  | resetPort p h => exact .of_kept (s.resetPort_tenureKept h)
  | resetDownstream => exact .of_kept (s.clearDownstream_tenureKept.trans (.of_eq rfl rfl))
  | purgeClass c => exact .of_kept ((s.removeHeld_tenureKept _).trans (.of_eq rfl rfl))
  | snapshot classes => exact .of_kept (s.snapshot_tenureKept classes)
  | trafficReset => exact s.trafficReset_tenureMove
  | _ => exact .of_kept (.of_eq rfl rfl)

/-- What every command can do to the arbiter and the tenure limits. -/
theorem Effect.tenureMove {s t : State} {i : Instr} (h : Effect s i t) : TenureMove s t := by
  have port : ∀ p f, TenureKept s (s.updPort p f) := fun _ _ => .of_eq rfl rfl
  cases h with
  | accepted _ h => exact h.tenureMove.trans_kept (.of_eq rfl rfl)
  | refused p packet kind reason cls =>
    exact .of_kept ((port p _).trans (State.refuseRequest_tenureKept _ p _ reason cls))
  | taken p => exact .of_kept ((port p _).trans (State.takeRequest_tenureKept _ _))
  | portLinkUp p => exact .of_kept (s.portLinkUp_tenureKept p)
  | portLinkLost p => exact .of_kept (s.portLinkLost_tenureKept p)
  | responseSendEnd p => exact .of_kept (s.responseSent_tenureKept p)
  | settled => exact ⟨.settled, fun c => .inl (by rw [s.settleTenure_untouched.classes])⟩
  | granted c kind e d _ hg => exact State.grant_tenureMove hg
  | sendEnd => exact .of_kept s.freeIssuing_tenureKept
  | memoryPacket => exact .of_kept (s.memoryPacket_tenureKept _)
  | memLinkUp => exact .of_kept (s.memoryLinkUp_tenureKept _)
  | memLinkLost => exact .of_kept (s.clearDownstream_tenureKept.trans (.of_eq rfl rfl))
  | entryTimeout d => exact .of_kept (s.timeOut_tenureKept d)
  | firstExpiry c =>
    have struck : TenureKept s (s.updClass c fun k => { k.restartClock with strikes := 1 }) := .updClass rfl
    exact .of_kept (struck.trans (.of_eq rfl rfl))
  | secondExpiry c =>
    have struck : TenureKept s (s.updClass c fun k => { k with strikes := 2, clock := k.activeWait }) := .updClass rfl
    exact .of_kept (struck.trans (.of_eq rfl rfl))
  | epochBoundary => exact .of_kept s.epochBoundary_tenureKept
  | midEpochPoint => exact .of_kept s.midEpochPoint_tenureKept
  | frameEdge => exact .of_kept s.frameEdge_tenureKept
  | rstAssert => exact (s.atPowerOn_tenureMove false).trans_kept (.of_eq rfl rfl)
  | rstRelease b => exact s.atPowerOn_tenureMove b
  | lastAddressBit a => exact .of_kept (s.takeAddress_tenureKept a)
  | csRise =>
    have raised : ∀ f, TenureKept s (s.updPins f) := fun _ => .of_eq rfl rfl
    exact .of_kept ((raised _).trans (State.closeFrame_tenureKept _))
  | claimCapture g => exact .of_kept (s.captureAt_tenureKept _)
  | claimCompletion g =>
    have completed : TenureKept s (s.completeClaim g) := .of_eq rfl rfl
    exact .of_kept (completed.trans (State.captureAt_tenureKept ..))
  | snapshotSlotRead c =>
    have freed : TenureKept s (s.updClass c fun k => { k with slot := none }) := .updClass rfl
    exact .of_kept (freed.trans (State.captureAt_tenureKept ..))
  | _ => exact .of_kept (.of_eq rfl rfl)

/-- What every step can do to the arbiter and the tenure limits; the queue of commands is neither's. -/
theorem tenureMove_of_step {s t : State} (h : step s = .next t) :
    ∃ rest, TenureMove { s with pending := rest } t := by
  rcases effect_of_step h with ⟨-, rfl⟩ | ⟨i, rest, -, heffect⟩
  · exact ⟨s.pending, .of_kept s.tick_tenureKept⟩
  · exact ⟨rest, heffect.tenureMove⟩

/-- Settles O42: every step moves the arbiter and the tenure limits in one of the ways that keep both laws. -/
theorem arbiterLawsKept : Obligations.ArbiterLawsKept := by
  intro s t hr ht hstep
  obtain ⟨sound, limits⟩ := s.arbiterLaws_iff.mp ⟨hr, ht⟩
  obtain ⟨rest, move⟩ := tenureMove_of_step hstep
  refine t.arbiterLaws_iff.mpr ⟨move.arb.sound sound fun c => (limits c).2, fun c => ?_⟩
  rcases move.limits c with hkept | hset
  · rw [hkept]
    exact limits c
  · exact hset

end Sys2Proof.Machine


/-! # The law of the starvation monitor (R60, R61, R66 to R68)

The law is one condition on each class's record, given the class's mark, whether its queue is empty and whether the
memory link is UP.  A command either keeps what the monitor sees, clears a class, or moves a clock. -/

namespace Sys2Proof.Machine

/-! ## The law as a condition on a class -/

/-- The two wait limits are 0 together and in their range (R67). -/
structure ClassRec.WaitLimits (k : ClassRec) : Prop where
  together : k.activeWait = 0 ↔ k.writtenWait = 0
  active : k.activeWait ≤ 65535
  written : k.writtenWait ≤ 65535

/-- The monitor's law for one class (R60, R61, R66 to R68). -/
structure ClassRec.Watched (k : ClassRec) (marked empty up : Prop) : Prop where
  mark : marked ↔ k.strikes = 2
  idle : empty → k.strikes = 0 ∧ k.clock = 0
  off : k.activeWait = 0 → k.strikes = 0
  limits : k.WaitLimits
  clock : k.clock ≤ k.activeWait
  paused : ¬up → k.strikes ≠ 2 → k.activeWait ≠ 0 → k.clock < k.activeWait

/-- The escape list holds no class twice, and every class keeps the monitor's law. -/
structure State.Monitored (s : State) : Prop where
  nodup : s.escapeList.Nodup
  classes : ∀ c, (s.classes.get c).Watched (c ∈ s.escapeList) (s.queue c = []) (s.mem.link = .up)

theorem State.monitored_iff (s : State) : s.Monitored ↔ s.MonitorLaw :=
  ⟨fun h => ⟨h.nodup, fun c =>
      have ⟨mark, idle, off, ⟨together, active, written⟩, clock, paused⟩ := h.classes c
      ⟨mark, idle, off, together, clock, paused, active, written⟩⟩,
    fun ⟨nodup, classes⟩ => ⟨nodup, fun c =>
      have ⟨mark, idle, off, together, clock, paused, active, written⟩ := classes c
      ⟨mark, idle, off, ⟨together, active, written⟩, clock, paused⟩⟩⟩

/-- A written limit that has become active (R62, R67). -/
theorem ClassRec.WaitLimits.of_eq {k : ClassRec} (h : k.activeWait = k.writtenWait) (hw : k.writtenWait ≤ 65535) :
    k.WaitLimits := ⟨by rw [h], h ▸ hw, hw⟩

/-- A class without strikes whose clock is at 0: what an emptied queue, a grant and a reset make of it (R65, R66,
R70). -/
structure ClassRec.Cleared (k : ClassRec) : Prop where
  limits : k.WaitLimits
  strikes : k.strikes = 0
  clock : k.clock = 0

/-- A cleared class without a mark has the law, whatever its queue and the link are. -/
theorem ClassRec.Cleared.watched {k : ClassRec} (h : k.Cleared) {marked empty up : Prop} (hm : ¬marked) :
    k.Watched marked empty up where
  mark := by simp [hm, h.strikes]
  idle _ := ⟨h.strikes, h.clock⟩
  off _ := h.strikes
  limits := h.limits
  clock := by rw [h.clock]; exact Nat.zero_le _
  paused _ _ ha := by rw [h.clock]; exact Nat.pos_of_ne_zero ha

/-- A clock that is moved within its limit, below it while the link is not UP. -/
theorem ClassRec.Watched.withClock {k : ClassRec} {marked empty up up' : Prop} (h : k.Watched marked empty up) {n : Nat}
    (idle : empty → n = 0) (clock : n ≤ k.activeWait)
    (paused : ¬up' → k.strikes ≠ 2 → k.activeWait ≠ 0 → n < k.activeWait) :
    ({ k with clock := n } : ClassRec).Watched marked empty up' where
  mark := h.mark
  idle he := ⟨(h.idle he).1, idle he⟩
  off := h.off
  limits := ⟨h.limits.together, h.limits.active, h.limits.written⟩
  clock := clock
  paused := paused

/-! ## Effects elsewhere -/

/-- Two records of a class agree on what the monitor holds (R60, R67). -/
structure ClassRec.SameMonitor (j k : ClassRec) : Prop where
  written : k.writtenWait = j.writtenWait
  active : k.activeWait = j.activeWait
  clock : k.clock = j.clock
  strikes : k.strikes = j.strikes

theorem ClassRec.SameMonitor.refl (k : ClassRec) : k.SameMonitor k := ⟨rfl, rfl, rfl, rfl⟩

theorem ClassRec.SameMonitor.trans {i j k : ClassRec} (h : i.SameMonitor j) (g : j.SameMonitor k) : i.SameMonitor k :=
  ⟨g.written.trans h.written, g.active.trans h.active, g.clock.trans h.clock, g.strikes.trans h.strikes⟩

/-- An effect that empties no class queue and leaves the monitor and the state of the memory link alone. -/
structure MonitorKept (s t : State) : Prop where
  queues : ∀ c, t.queue c = [] → s.queue c = []
  marks : t.escapeList = s.escapeList
  link : t.mem.link = s.mem.link
  classes : ∀ c, (s.classes.get c).SameMonitor (t.classes.get c)

namespace MonitorKept
variable {s t u : State}

theorem trans (h : MonitorKept s t) (g : MonitorKept t u) : MonitorKept s u :=
  ⟨fun c hc => h.queues c (g.queues c hc), g.marks.trans h.marks, g.link.trans h.link,
    fun c => (h.classes c).trans (g.classes c)⟩

theorem ite {p : Prop} [Decidable p] (ht : MonitorKept s t) (hu : MonitorKept s u) :
    MonitorKept s (if p then t else u) := by
  split
  · exact ht
  · exact hu

theorem of_eq (hh : t.held = s.held) (he : t.escapeList = s.escapeList) (hl : t.mem.link = s.mem.link)
    (hc : t.classes = s.classes) : MonitorKept s t :=
  ⟨fun c h => by rwa [State.queue, hh] at h, he, hl, fun c => by rw [hc]; exact .refl _⟩

/-- A class that keeps what the monitor holds, the others standing. -/
theorem updClass {c : ClassId} {f : ClassRec → ClassRec}
    (hf : (s.classes.get c).SameMonitor (f (s.classes.get c))) : MonitorKept s (s.updClass c f) :=
  ⟨fun _ => id, rfl, rfl, fun x => by
    rw [State.updClass_classes, Table.get_put]
    split
    · next hx => exact hx ▸ hf
    · exact .refl _⟩

theorem updClasses {f : ClassId → ClassRec → ClassRec}
    (hf : ∀ c, (s.classes.get c).SameMonitor (f c (s.classes.get c))) : MonitorKept s (s.updClasses f) :=
  ⟨fun _ => id, rfl, rfl, fun c => by rw [State.updClasses_classes, Table.get_build]; exact hf c⟩

end MonitorKept

/-- The law is about what such an effect keeps. -/
theorem State.Monitored.of_kept {s t : State} (h : s.Monitored) (g : MonitorKept s t) : t.Monitored where
  nodup := g.marks ▸ h.nodup
  classes c := by
    have hc := h.classes c
    obtain ⟨written, active, clock, strikes⟩ := g.classes c
    have hlimits := hc.limits
    exact {
      mark := by rw [g.marks, strikes]; exact hc.mark
      idle := fun he => by rw [strikes, clock]; exact hc.idle (g.queues c he)
      off := by rw [active, strikes]; exact hc.off
      limits := ⟨by rw [active, written]; exact hlimits.together, active ▸ hlimits.active,
        written ▸ hlimits.written⟩
      clock := by rw [clock, active]; exact hc.clock
      paused := by rw [g.link, strikes, active, clock]; exact hc.paused }

section kept
variable (s : State)

/-! Host ports. -/

theorem State.portLinkUp_monitorKept (p : Port) : MonitorKept s (s.portLinkUp p) := by
  unfold State.portLinkUp
  cases (s.ports.get p).state <;> exact .of_eq rfl rfl rfl rfl

theorem State.responseSent_monitorKept (p : Port) : MonitorKept s (s.responseSent p) :=
  .ite (.of_eq rfl rfl rfl rfl) (.of_eq rfl rfl rfl rfl)

theorem State.openPort_monitorKept {p : Port} {t : State} (h : s.openPort p = .ok t) : MonitorKept s t := by
  unfold State.openPort at h
  split at h
  · cases h; exact .of_eq rfl rfl rfl rfl
  · cases h; exact .ite (.of_eq rfl rfl rfl rfl) (.of_eq rfl rfl rfl rfl)
  · cases h

theorem State.closePort_monitorKept {p : Port} {t : State} (h : s.closePort p = .ok t) : MonitorKept s t := by
  unfold State.closePort at h
  split at h
  · cases h; exact .ite (.of_eq rfl rfl rfl rfl) (.of_eq rfl rfl rfl rfl)
  · cases h; exact .of_eq rfl rfl rfl rfl
  · cases h

/-- A port that is cut off leaves of the monitor what the removal of its HELD entries leaves (R16, R109). -/
theorem State.portLinkLost_monitorKept (p : Port) : MonitorKept (s.removeHeld (·.port = p)) (s.portLinkLost p) :=
  .ite (.of_eq rfl rfl rfl rfl) (.of_eq rfl rfl rfl rfl)

theorem State.resetPort_monitorKept {p : Port} {t : State} (h : s.resetPort p = .ok t) :
    MonitorKept (s.removeHeld (·.port = p)) t := by
  unfold State.resetPort at h
  split at h
  · cases h
  · cases h; exact .ite (.of_eq rfl rfl rfl rfl) (.of_eq rfl rfl rfl rfl)

theorem State.refuseInClass_monitorKept (reason : RefusalReason) (c : ClassId) :
    MonitorKept s (s.refuseInClass reason c) := by
  have counted : MonitorKept s (s.updClass c fun k => { k with classRefusals := bump k.classRefusals 1 }) :=
    .updClass ⟨rfl, rfl, rfl, rfl⟩
  cases reason with
  | classFull => exact counted.trans (.of_eq rfl rfl rfl rfl)
  | _ => exact counted

theorem State.refuseRequest_monitorKept (p : Port) (tag : HostTag) (reason : RefusalReason) (cls : Option ClassId) :
    MonitorKept s (s.refuseRequest p tag reason cls) := by
  cases cls with
  | none => exact .of_eq rfl rfl rfl rfl
  | some c =>
    have answered : MonitorKept s ((s.updPort p fun k =>
        ({ k with requestsRefused := bump k.requestsRefused 1 }.enqueue ⟨tag, .refused reason⟩).returnCredits 1).raise
          (.port p .refusal)) := .of_eq rfl rfl rfl rfl
    exact answered.trans (State.refuseInClass_monitorKept _ reason c)

/-! The memory port. -/

theorem State.freeIssuing_monitorKept : MonitorKept s s.freeIssuing := by
  unfold State.freeIssuing
  split <;> exact .of_eq rfl rfl rfl rfl

theorem State.memoryResponse_monitorKept (k : MemPacket) : MonitorKept s (s.memoryResponse k) := by
  unfold State.memoryResponse
  split
  · exact .ite (.of_eq rfl rfl rfl rfl) (.ite (.of_eq rfl rfl rfl rfl) (.of_eq rfl rfl rfl rfl))
  all_goals exact .of_eq rfl rfl rfl rfl

theorem State.memoryPacket_monitorKept (k : MemPacket) : MonitorKept s (s.memoryPacket k) := by
  unfold State.memoryPacket
  split
  · exact s.memoryResponse_monitorKept k
  · exact s.memoryResponse_monitorKept k
  · exact s.memoryResponse_monitorKept k
  · exact .ite (.of_eq rfl rfl rfl rfl) (.of_eq rfl rfl rfl rfl)
  · exact .of_eq rfl rfl rfl rfl

theorem State.timeOut_monitorKept (d : DTag) : MonitorKept s (s.timeOut d) := by
  unfold State.timeOut
  split
  · exact .ite (.of_eq rfl rfl rfl rfl) (.of_eq rfl rfl rfl rfl)
  · exact .ite (.of_eq rfl rfl rfl rfl) (.of_eq rfl rfl rfl rfl)
  · exact .of_eq rfl rfl rfl rfl

/-! Classes, the arbiter and the management link. -/

theorem State.clearCounter_monitorKept (n : CounterId) : MonitorKept s (s.clearCounter n) := by
  cases n with
  | grants c => exact .updClass (f := fun k => { k with grants := 0 }) ⟨rfl, rfl, rfl, rfl⟩
  | grantedUnits c => exact .updClass (f := fun k => { k with grantedUnits := 0 }) ⟨rfl, rfl, rfl, rfl⟩
  | escapeGrants c => exact .updClass (f := fun k => { k with escapeGrants := 0 }) ⟨rfl, rfl, rfl, rfl⟩
  | classRefusals c => exact .updClass (f := fun k => { k with classRefusals := 0 }) ⟨rfl, rfl, rfl, rfl⟩
  | _ => exact .of_eq rfl rfl rfl rfl

theorem State.snapshot_monitorKept (classes : Byte) : MonitorKept s (s.snapshot classes) :=
  .updClasses fun c => by split <;> exact ⟨rfl, rfl, rfl, rfl⟩

theorem State.epochBoundary_monitorKept : MonitorKept s s.epochBoundary :=
  ⟨fun _ => id, rfl, rfl, fun c => by
    rw [State.epochBoundary_class, ClassRec.atBoundary_eq]; exact ⟨rfl, rfl, rfl, rfl⟩⟩

theorem State.midEpochPoint_monitorKept : MonitorKept s s.midEpochPoint :=
  ⟨fun _ => id, rfl, rfl, fun c => by
    rw [State.midEpochPoint_class, ClassRec.atMidEpoch_eq]; exact ⟨rfl, rfl, rfl, rfl⟩⟩

theorem State.frameEdge_monitorKept : MonitorKept s s.frameEdge :=
  ⟨fun _ => id, rfl, rfl, fun c => by
    rw [State.frameEdge_class, ClassRec.atFrame_eq]; exact ⟨rfl, rfl, rfl, rfl⟩⟩

theorem State.settleTenure_monitorKept : MonitorKept s s.settleTenure := by
  rw [State.settleTenure_frame]
  exact .of_eq rfl rfl rfl rfl

theorem State.captureAt_monitorKept (a : Addr) : MonitorKept s (s.captureAt a) := by
  unfold State.captureAt State.captureWord
  split <;> exact .of_eq rfl rfl rfl rfl

theorem State.takeAddress_monitorKept (a : Addr) : MonitorKept s (s.takeAddress a) := by
  unfold State.takeAddress
  split
  · have addressed : ∀ f, MonitorKept s (s.updMgmt f) := fun _ => .of_eq rfl rfl rfl rfl
    exact (addressed _).trans (State.captureAt_monitorKept _ a)
  · exact .of_eq rfl rfl rfl rfl
  · exact .of_eq rfl rfl rfl rfl

theorem State.closeFrame_monitorKept : MonitorKept s s.closeFrame := by
  unfold State.closeFrame State.abandonClaim
  split <;> exact .of_eq rfl rfl rfl rfl

end kept

/-! ## Wait limits (R67) -/

/-- A wait limit of 0 turns the monitor off for the class. -/
theorem State.setWaitLimit_zero (s : State) (c : ClassId) :
    s.setWaitLimit c 0 =
      (s.updClass c fun k => { k with writtenWait := 0, activeWait := 0, clock := 0, strikes := 0 }).unmark c := rfl

/-- A wait limit over an active one of 0 becomes active at once. -/
theorem State.setWaitLimit_of_off {s : State} {c : ClassId} {n : Nat} (hn : n ≠ 0)
    (ha : (s.classes.get c).activeWait = 0) :
    s.setWaitLimit c n = s.updClass c fun k => { k with writtenWait := n, activeWait := n, clock := 0 } := by
  rw [State.setWaitLimit, if_neg hn, if_pos ha]

/-- Any other wait limit is written and no more. -/
theorem State.setWaitLimit_of_on {s : State} {c : ClassId} {n : Nat} (hn : n ≠ 0)
    (ha : (s.classes.get c).activeWait ≠ 0) :
    s.setWaitLimit c n = s.updClass c fun k => { k with writtenWait := n } := by
  rw [State.setWaitLimit, if_neg hn, if_neg ha]

/-! ## Expiries (R63) -/

/-- A clock expires where it is RUNNING and has reached its active wait limit (R63). -/
theorem State.waitExpired_iff (s : State) (c : ClassId) :
    s.waitExpired c = true ↔ s.Runs c ∧ (s.classes.get c).activeWait ≤ (s.classes.get c).clock := by
  rw [State.waitExpired, Bool.and_eq_true, beq_iff_eq, decide_eq_true_eq, State.clockCondition_iff]

/-! ## Effects on the monitor -/

/-- No class is marked, and each is cleared. -/
theorem State.Monitored.of_allCleared {s : State} (he : s.escapeList = []) (hc : ∀ c, (s.classes.get c).Cleared) :
    s.Monitored := ⟨he ▸ List.nodup_nil, fun c => (hc c).watched (by simp [he])⟩

namespace State.Monitored
variable {s t : State} (h : s.Monitored)
include h

theorem updClass {c : ClassId} {f : ClassRec → ClassRec}
    (hf : (f (s.classes.get c)).Watched (c ∈ s.escapeList) (s.queue c = []) (s.mem.link = .up)) :
    (s.updClass c f).Monitored where
  nodup := h.nodup
  classes x := by
    rw [State.updClass_classes, Table.get_put]
    split
    · next hx => exact hx ▸ hf
    · exact h.classes x

/-- Some classes are cleared and lose their marks; the others stand, and no queue of theirs is emptied. -/
theorem clear {cleared : ClassId → Bool} (he : t.escapeList = s.escapeList.filter (!cleared ·))
    (hl : t.mem.link = s.mem.link) (hc : ∀ c, cleared c = true → (t.classes.get c).Cleared)
    (hk : ∀ c, cleared c = false → t.classes.get c = s.classes.get c ∧ (t.queue c = [] → s.queue c = [])) :
    t.Monitored where
  nodup := he ▸ h.nodup.filter _
  classes c := by
    have marks : c ∈ t.escapeList ↔ c ∈ s.escapeList ∧ cleared c = false := by simp [he]
    cases hcl : cleared c with
    | true => exact (hc c hcl).watched (by simp [marks, hcl])
    | false =>
      obtain ⟨hrecord, hqueue⟩ := hk c hcl
      have stands := h.classes c
      rw [hrecord, hl]
      exact { stands with
        mark := by simpa [marks, hcl] using stands.mark
        idle := fun hq => stands.idle (hqueue hq) }

/-- One class is cleared and loses its mark. -/
theorem clearOne {c : ClassId} (he : t.escapeList = s.escapeList.filter (· ≠ c)) (hl : t.mem.link = s.mem.link)
    (hc : (t.classes.get c).Cleared)
    (hk : ∀ x, c ≠ x → t.classes.get x = s.classes.get x ∧ (t.queue x = [] → s.queue x = [])) : t.Monitored :=
  h.clear (cleared := (· == c)) (he.trans (List.filter_congr fun x _ => by by_cases hx : x = c <;> simp [hx])) hl
    (fun x hx => by rwa [eq_of_beq hx]) fun x hx => hk x (Ne.symm (by simpa using hx))

/-- A class without strikes is restarted; it has no mark to lose. -/
theorem restart {c : ClassId} {f : ClassRec → ClassRec} (hs : (s.classes.get c).strikes = 0)
    (hf : (f (s.classes.get c)).Cleared) : (s.updClass c f).Monitored :=
  h.updClass (hf.watched (by simp [(h.classes c).mark, hs]))

/-- A removal of HELD entries clears the classes that it empties (R66). -/
theorem removeHeld (gone : StoreEntry → Bool) : (s.removeHeld gone).Monitored := by
  refine h.clear (cleared := s.emptiedBy gone) rfl rfl (fun c hc => ?_) fun c hc => ⟨?_, fun hq => ?_⟩
  · rw [State.removeHeld_class, if_pos hc]
    have limits := (h.classes c).limits
    exact ⟨⟨limits.together, limits.active, limits.written⟩, rfl, rfl⟩
  · rw [State.removeHeld_class, if_neg (by simp [hc])]
  · by_contra hne
    have emptied := (s.emptiedBy_iff gone c).mpr ⟨hne, hq⟩
    rw [hc] at emptied
    cases emptied

theorem abortHeld (gone : StoreEntry → Bool) : (s.abortHeld gone).Monitored :=
  (h.removeHeld gone).of_kept (.of_eq rfl rfl rfl rfl)

/-- A request that is taken restarts the clock of a class whose queue was empty, and empties no queue (R62). -/
theorem takeRequest (e : StoreEntry) : (s.takeRequest e).Monitored := by
  have restarted : s.queue e.cls = [] → (s.updClass e.cls ClassRec.restartClock).Monitored := fun hq => by
    have watched := h.classes e.cls
    obtain ⟨strikes, -⟩ := watched.idle hq
    exact h.restart strikes ⟨.of_eq rfl watched.limits.written, strikes, rfl⟩
  have joined : ∀ c, (s.held ++ [e]).filter (·.cls = c) = [] → s.queue c = [] := fun c hq => by
    rw [List.filter_append] at hq
    exact (List.append_eq_nil_iff.mp hq).1
  rw [State.takeRequest_eq]
  split
  · next hq => exact (restarted hq).of_kept ⟨joined, rfl, rfl, fun _ => .refl _⟩
  · exact h.of_kept ⟨joined, rfl, rfl, fun _ => .refl _⟩

/-- A grant clears its class and takes its head; the other queues stand (R65, R66). -/
theorem grant {c : ClassId} {kind : GrantKind} {e : StoreEntry} {d : DTag} (hg : s.grantee = some ((c, kind), e, d)) :
    (s.grant c kind e d).Monitored := by
  obtain ⟨-, hhead, -⟩ := State.grantee_eq_some.mp hg
  obtain ⟨before, after, hl, hcls, -, hheld⟩ := State.queue_head_split hhead
  rw [State.grant_eq]
  refine h.clearOne rfl rfl ?_ fun x hx => ⟨Table.get_put_of_ne _ _ hx, fun hq => ?_⟩
  · rw [Table.get_put_self]
    exact ⟨.of_eq rfl (h.classes c).limits.written, rfl, rfl⟩
  · rw [State.queue, hheld] at hq
    rw [State.queue, hl]
    simpa [List.filter_append, List.filter_cons, hcls, hx] using hq

/-- An accepted wait limit (R67). -/
theorem setWaitLimit (c : ClassId) {n : Nat} (hn : n ≤ 65535) : (s.setWaitLimit c n).Monitored := by
  have watched := h.classes c
  by_cases h0 : n = 0
  · subst h0
    rw [State.setWaitLimit_zero]
    refine h.clearOne rfl rfl ?_ fun x hx => ⟨Table.get_put_of_ne _ _ hx, id⟩
    rw [State.unmark_classes, State.updClass_classes, Table.get_put_self]
    exact ⟨.of_eq rfl hn, rfl, rfl⟩
  · by_cases ha : (s.classes.get c).activeWait = 0
    · have strikes := watched.off ha
      rw [State.setWaitLimit_of_off h0 ha]
      exact h.restart strikes ⟨.of_eq rfl hn, strikes, rfl⟩
    · rw [State.setWaitLimit_of_on h0 ha]
      exact h.updClass { watched with
        limits := ⟨⟨fun h => absurd h ha, fun h => absurd h h0⟩, watched.limits.active, hn⟩ }

/-- The first expiry makes one strike of a class that had none (R63). -/
theorem firstExpiry {c : ClassId} (hw : s.waitExpired c = true) (hs : (s.classes.get c).strikes = 0) :
    (s.firstExpiry c).Monitored := by
  obtain ⟨⟨waits, hactive, -, up⟩, -⟩ := (s.waitExpired_iff c).mp hw
  have watched := h.classes c
  have hwritten : (s.classes.get c).writtenWait ≠ 0 := mt watched.limits.together.mpr hactive
  refine (h.updClass (f := fun k => { k.restartClock with strikes := 1 }) ?_).of_kept (.of_eq rfl rfl rfl rfl)
  exact {
    mark := by simp [watched.mark, hs]
    idle := fun hq => absurd hq waits
    off := fun h => absurd h hwritten
    limits := .of_eq rfl watched.limits.written
    clock := Nat.zero_le _
    paused := fun hl => absurd up hl }

/-- The second expiry marks a class that had one strike (R63). -/
theorem secondExpiry {c : ClassId} (hw : s.waitExpired c = true) : (s.secondExpiry c).Monitored := by
  obtain ⟨⟨waits, hactive, hstrikes, -⟩, -⟩ := (s.waitExpired_iff c).mp hw
  have unmarked : c ∉ s.escapeList := mt (h.classes c).mark.mp hstrikes
  refine ⟨List.nodup_append.mpr ⟨h.nodup, List.nodup_singleton c, ?_⟩, fun x => ?_⟩
  · rintro x hx _ hy rfl
    exact unmarked (List.mem_singleton.mp hy ▸ hx)
  · have watched := h.classes x
    simp only [State.secondExpiry, State.updClass_classes, Table.get_put, List.mem_append, List.mem_singleton]
    split
    · next hx =>
      subst hx
      exact {
        mark := by simp
        idle := fun hq => absurd hq waits
        off := fun h => absurd h hactive
        limits := ⟨watched.limits.together, watched.limits.active, watched.limits.written⟩
        clock := le_rfl
        paused := fun _ h2 => absurd rfl h2 }
    · next hx => exact { watched with mark := by simpa [Ne.symm hx] using watched.mark }

/-- Clocks that are PAUSED stand below their limits, whatever the link has become (R61, R68). -/
theorem paused (hh : t.held = s.held) (he : t.escapeList = s.escapeList)
    (hc : t.classes = s.pauseClocks.classes) : t.Monitored where
  nodup := he ▸ h.nodup
  classes c := by
    have watched := h.classes c
    have hclock := watched.clock
    have hqueue : t.queue c = s.queue c := congrArg (List.filter _) hh
    rw [hc, State.pauseClocks_class, he, hqueue]
    refine watched.withClock (fun hq => ?_) ?_ fun _ hstrikes hactive => ?_
    · rw [if_neg fun hx => hx.1.1 hq]
      exact (watched.idle hq).2
    · split <;> omega
    · by_cases hruns : s.Runs c
      · split
        · omega
        · next hx => exact not_le.mp fun hle => hx ⟨hruns, hle⟩
      · rw [if_neg fun hx => hruns hx.1]
        by_cases hq : s.queue c = []
        · rw [(watched.idle hq).2]
          exact Nat.pos_of_ne_zero hactive
        · exact watched.paused (fun up => hruns ⟨hq, hactive, hstrikes, up⟩) hstrikes hactive

theorem resetDownstream : s.resetDownstream.Monitored := by
  rw [State.resetDownstream_frame]
  exact h.paused rfl rfl s.clearDownstream_classes

/-- TRAFFIC_RESET clears every class (R70). -/
theorem trafficReset : s.trafficReset.Monitored :=
  .of_allCleared rfl fun c => by
    rw [State.trafficReset_class]
    exact ⟨.of_eq rfl (h.classes c).limits.written, rfl, rfl⟩

/-- A link that comes up lets the clocks run again; a refused announcement leaves the link as it is (R61, R126). -/
theorem memoryLinkUp (n : Nat) : (s.memoryLinkUp n).Monitored := by
  unfold State.memoryLinkUp
  split
  · exact ⟨h.nodup, fun c => { h.classes c with paused := fun hl => absurd rfl hl }⟩
  · exact h.of_kept (.of_eq rfl rfl rfl rfl)

/-- Training of a link that is not UP leaves it not UP (R125). -/
theorem memTraining (hl : s.mem.link ≠ .up) :
    (s.updMem fun m => { m with link := .training, retrain := false }).Monitored :=
  ⟨h.nodup, fun c => { h.classes c with paused := fun _ => (h.classes c).paused hl }⟩

/-- A base tick moves RUNNING clocks alone, up to their limits (R61). -/
theorem tick : s.tick.Monitored := by
  by_cases hr : s.pins.rstLow = true
  · rw [State.tick, if_neg (by simp [State.awake, hr])]
    exact h
  · rw [State.tick_of_awake (Bool.eq_false_iff.mpr hr), State.readTick_frame]
    refine ⟨h.nodup, fun c => ?_⟩
    have watched := h.classes c
    have hclock := watched.clock
    rw [Table.get_build, State.tickClass_eq]
    refine watched.withClock (fun hq => ?_) ?_ fun hl hstrikes hactive => ?_
    · rw [if_neg fun hx => hx.1.1 hq]
      exact (watched.idle hq).2
    · split <;> omega
    · rw [if_neg fun hx => hl hx.1.2.2.2]
      exact watched.paused hl hstrikes hactive

end State.Monitored

theorem State.atPowerOn_monitored (s : State) (b : Bool) : (s.atPowerOn b).Monitored :=
  State.Monitored.of_kept (s := State.powerOn b) ((State.monitored_iff _).mpr (State.powerOn_monitorLaw b))
    (.of_eq rfl rfl rfl rfl)

/-! ## Every step -/

/-- An accepted word keeps the law; of the settings, the wait limit alone is the monitor's. -/
theorem Accepted.monitored {s t : State} (ht : Accepted s t) (h : s.Monitored) : t.Monitored := by
  cases ht with
  | mode | allowance | tenureLimit | admission | depthLimit | reloadClass =>
    exact h.of_kept (.updClass ⟨rfl, rfl, rfl, rfl⟩)
  | waitLimit c n hn => exact h.setWaitLimit c hn
  | counter n => exact h.of_kept (s.clearCounter_monitorKept n)
  | openPort p ht => exact h.of_kept (s.openPort_monitorKept ht)
  | closePort p ht => exact h.of_kept (s.closePort_monitorKept ht)
  | resetPort p ht => exact (h.removeHeld _).of_kept (s.resetPort_monitorKept ht)
  | resetDownstream => exact h.resetDownstream
  | purgeClass c => exact h.abortHeld _
  | snapshot classes => exact h.of_kept (s.snapshot_monitorKept classes)
  | trafficReset => exact h.trafficReset
  | _ => exact h.of_kept (.of_eq rfl rfl rfl rfl)

/-- Every command keeps the law. -/
theorem Effect.monitored {s t : State} {i : Instr} (ht : Effect s i t) (h : s.Monitored) : t.Monitored := by
  have same : ∀ {u : State}, u.held = s.held → u.escapeList = s.escapeList → u.mem.link = s.mem.link →
      u.classes = s.classes → u.Monitored := fun hh he hl hc => h.of_kept (.of_eq hh he hl hc)
  cases ht with
  | accepted _ ht => exact (ht.monitored h).of_kept (.of_eq rfl rfl rfl rfl)
  | refused p packet kind reason cls =>
    have admitted : (s.updPort p (·.admitTag (readHostPacket packet).hostTag)).Monitored := same rfl rfl rfl rfl
    exact admitted.of_kept (State.refuseRequest_monitorKept _ p _ reason cls)
  | taken p packet =>
    have admitted : (s.updPort p (·.admitTag (readHostPacket packet).hostTag)).Monitored := same rfl rfl rfl rfl
    exact admitted.takeRequest _
  | portLinkUp p => exact h.of_kept (s.portLinkUp_monitorKept p)
  | portLinkLost p => exact (h.removeHeld _).of_kept (s.portLinkLost_monitorKept p)
  | responseSendEnd p => exact h.of_kept (s.responseSent_monitorKept p)
  | settled => exact h.of_kept s.settleTenure_monitorKept
  | granted c kind e d _ hg => exact (h.of_kept s.settleTenure_monitorKept).grant hg
  | sendEnd => exact h.of_kept s.freeIssuing_monitorKept
  | memoryPacket => exact h.of_kept (s.memoryPacket_monitorKept _)
  | memTraining _ hl => exact h.memTraining hl
  | memLinkUp => exact h.memoryLinkUp _
  | memLinkLost =>
    rw [State.clearDownstream_frame]
    exact h.paused rfl rfl s.clearDownstream_classes
  | entryTimeout d => exact h.of_kept (s.timeOut_monitorKept d)
  | firstExpiry c _ hw hs => exact h.firstExpiry hw hs
  | secondExpiry c _ hw => exact h.secondExpiry hw
  | epochBoundary => exact h.of_kept s.epochBoundary_monitorKept
  | midEpochPoint => exact h.of_kept s.midEpochPoint_monitorKept
  | frameEdge => exact h.of_kept s.frameEdge_monitorKept
  | rstAssert => exact (s.atPowerOn_monitored false).of_kept (.of_eq rfl rfl rfl rfl)
  | rstRelease b => exact s.atPowerOn_monitored b
  | lastAddressBit a => exact h.of_kept (s.takeAddress_monitorKept a)
  | csRise =>
    have raised : (s.updPins fun k => { k with csLow := false }).Monitored := same rfl rfl rfl rfl
    exact raised.of_kept (State.closeFrame_monitorKept _)
  | claimCapture g => exact h.of_kept (s.captureAt_monitorKept _)
  | claimCompletion g =>
    have completed : (s.completeClaim g).Monitored := same rfl rfl rfl rfl
    exact completed.of_kept (State.captureAt_monitorKept ..)
  | snapshotSlotRead c =>
    have freed : MonitorKept s (s.updClass c fun k => { k with slot := none }) := .updClass ⟨rfl, rfl, rfl, rfl⟩
    exact h.of_kept (freed.trans (State.captureAt_monitorKept ..))
  | _ => exact same rfl rfl rfl rfl

/-- Settles O44: a base tick and every command keep the monitor's condition on each class. -/
theorem monitorLawKept : Obligations.MonitorLawKept := by
  intro s t hs hstep
  have h : s.Monitored := s.monitored_iff.mpr hs
  rw [← State.monitored_iff]
  rcases effect_of_step hstep with ⟨-, rfl⟩ | ⟨i, rest, -, heffect⟩
  · exact h.tick
  · exact heffect.monitored (h.of_kept (.of_eq rfl rfl rfl rfl))

end Sys2Proof.Machine


/-! # Wait limits, wait clocks and the links (R63, R67, R68, R110, R111, R125, R126, R138) -/

namespace Sys2Proof.Machine

/-! ## Wait limits and wait clocks -/

/-- Settles O8: an accepted word is `State.setWaitLimit`, in the three cases of its lemmas. -/
theorem waitLimitWrites : Obligations.WaitLimitWrites := by
  intro c w s hw
  have accepted : ∀ {t : State}, w.toNat ≤ 65535 → s.setWaitLimit c w.toNat = t → t.mgmt = s.mgmt →
      exec (.waitLimitWrite c w) s = .next t.wordPassed := fun hn ht hm => by
    refine congrArg Host.Outcome.next (s.writeWord_accepted (w := .waitLimit c) hw nofun ?_ hm)
    rw [ownWaitLimit, accept, if_pos (decide_eq_true hn), ht]
  refine ⟨fun hn => ?refused, fun h0 => ?off, fun hlow hhigh ha => ?turnedOn, fun hlow hhigh ha => ?written⟩
  case refused =>
    refine congrArg Host.Outcome.next (s.writeWord_refused (w := .waitLimit c) hw nofun ?_)
    rw [ownWaitLimit, accept, if_neg (by simpa using hn)]
  case off =>
    rw [h0] at accepted
    exact accepted (Nat.zero_le _) (s.setWaitLimit_zero c) rfl
  case turnedOn => exact accepted hhigh (State.setWaitLimit_of_off (by omega) ha) rfl
  case written => exact accepted hhigh (State.setWaitLimit_of_on (by omega) ha) rfl

/-- Out of reset, an expiry is the first or the second by the strikes, where the clock expires (R63). -/
theorem exec_waitClockExpiry {s : State} (hr : s.pins.rstLow = false) (c : ClassId) :
    exec (.waitClockExpiry c) s = .next
      (if s.Runs c ∧ (s.classes.get c).activeWait ≤ (s.classes.get c).clock then
        if (s.classes.get c).strikes = 0 then s.firstExpiry c else s.secondExpiry c else s) := by
  show execWaitClockExpiry c s = _
  simp only [execWaitClockExpiry, State.awake, hr, Bool.not_false, Bool.true_and, State.waitExpired_iff]

/-- Settles O40: the two expiries are the records of the statement. -/
theorem waitClocksExpire : Obligations.WaitClocksExpire := by
  intro c s hr
  have run := exec_waitClockExpiry hr c
  refine ⟨fun hexpired hs => ?first, fun hexpired hs => ?second, fun hn => ?none⟩
  case first =>
    rw [if_pos hexpired, if_pos hs] at run
    exact run
  case second =>
    rw [if_pos hexpired, if_neg (by simp [hs])] at run
    exact run
  case none => rwa [if_neg hn] at run

/-! ## The links of the host ports -/

/-- A port that comes up from WAITING enters OPEN with its credits advertised (R110, R113). -/
theorem State.portLinkUp_of_waiting {s : State} {p : Port} (h : (s.ports.get p).state = .waiting) :
    s.portLinkUp p = (s.withPort p { s.ports.get p with
      linkUp := true, retrain := false, state := .opened
      hostCredits := (s.ports.get p).hostCredits + ((s.ports.get p).creditLimit - s.storeEntries p)
      pendingCredits := (s.ports.get p).pendingCredits + ((s.ports.get p).creditLimit - s.storeEntries p) }).withCause
        (portGroup p) 0 := by
  simp only [State.portLinkUp, h, State.enterOpen, State.updPort, Table.get_put_self, Table.put_put]
  rfl

/-- A CLOSED port stays CLOSED with its link up (R110). -/
theorem State.portLinkUp_of_closed {s : State} {p : Port} (h : (s.ports.get p).state = .closed) :
    s.portLinkUp p = s.withPort p { s.ports.get p with linkUp := true, retrain := false } := by
  rw [State.portLinkUp, h]
  rfl

/-- The state of a port after a link loss, in the words of the statements (R111). -/
theorem PortState.afterLoss_eq (st : PortState) :
    st.afterLoss = if st = .opened then .waiting else if st = .closing then .closed else st := by
  cases st <;> rfl

/-- Port `p` cut off by a link loss, before its causes (R111). -/
def State.portLost (s : State) (p : Port) : State :=
  (s.cutPort p).updPort p fun k => { k with linkUp := false, state := k.state.afterLoss }

theorem State.portLinkLost_eq (s : State) (p : Port) :
    s.portLinkLost p = if (s.ports.get p).state = .closing
      then ((s.portLost p).withCause (portGroup p) 2).withCause (portGroup p) 1
      else (s.portLost p).withCause (portGroup p) 2 := rfl

theorem State.portLost_cutFrom (s : State) (p : Port) : CutFrom s (s.portLost p) p :=
  cutFrom_of_cutPort rfl rfl rfl rfl fun _ hq => Table.get_put_of_ne _ _ hq.symm

theorem State.portLost_self (s : State) (p : Port) :
    (s.portLost p).ports.get p = { (s.ports.get p).cut with
      linkUp := false
      state := if (s.ports.get p).state = .opened then .waiting
        else if (s.ports.get p).state = .closing then .closed else (s.ports.get p).state } := by
  rw [State.portLost, State.updPort_ports, Table.get_put_self, State.cutPort_self, PortState.afterLoss_eq]
  rfl

section host
variable {s : State} (hr : s.pins.rstLow = false) {p : Port}
include hr

theorem exec_portLinkUp (h : (s.ports.get p).linkUp = false) : exec (.portLinkUp p) s = .next (s.portLinkUp p) := by
  show execPortLinkUp p s = _
  simp only [execPortLinkUp, State.awake, hr, h, Bool.not_false, Bool.and_self, if_true]

theorem exec_portLinkLost (h : (s.ports.get p).linkUp = true) :
    exec (.portLinkLost p) s = .next (s.portLinkLost p) := by
  show execPortLinkLost p s = _
  simp only [execPortLinkLost, State.awake, hr, h, Bool.not_false, Bool.and_self, if_true]

end host

/-! What a link loss makes of the state; the port's state before it decides the causes (R111). -/

theorem State.portLinkLost_cutFrom (s : State) (p : Port) : CutFrom s (s.portLinkLost p) p := by
  rw [State.portLinkLost_eq]
  split <;> exact s.portLost_cutFrom p

theorem State.portLinkLost_port (s : State) (p : Port) :
    (s.portLinkLost p).ports.get p = (s.portLost p).ports.get p := by
  rw [State.portLinkLost_eq]
  split <;> rfl

theorem State.portLinkLost_frame (s : State) (p : Port) :
    s.portLinkLost p = { (if (s.ports.get p).state = .closing
        then (s.withCause (portGroup p) 2).withCause (portGroup p) 1
        else s.withCause (portGroup p) 2) with
      held := (s.portLinkLost p).held, classes := (s.portLinkLost p).classes
      escapeList := (s.portLinkLost p).escapeList, mem := (s.portLinkLost p).mem
      ports := (s.portLinkLost p).ports } := by
  rw [State.portLinkLost_eq]
  split <;> rfl

/-- Settles O30: each event is its record where the port's state and link let it come. -/
theorem portLinkEvents : Obligations.PortLinkEvents := by
  intro p s hr
  refine ⟨fun hl hs => ?waiting, fun hl hs => ?closed, fun hl => ?lost⟩
  case waiting => rw [exec_portLinkUp hr hl, State.portLinkUp_of_waiting hs]
  case closed => rw [exec_portLinkUp hr hl, State.portLinkUp_of_closed hs]
  case lost =>
    exact ⟨_, exec_portLinkLost hr hl, s.portLinkLost_cutFrom p,
      (s.portLinkLost_port p).trans (s.portLost_self p), s.portLinkLost_frame p⟩

/-! ## The memory link -/

/-- An announcement of 1 to 32 is accepted, any other refused (R126). -/
theorem State.memoryLinkUp_eq (s : State) (n : Nat) :
    s.memoryLinkUp n = if 1 ≤ n ∧ n ≤ 32 then
      { s.withCause 12 6 with
        mem := { s.mem with link := .up, announced := n, credits := n, retrain := false } }
    else { s.withCause 12 4 with mem := { s.mem with retrain := true } } := by
  simp only [State.memoryLinkUp, Bool.and_eq_true, decide_eq_true_eq]
  rfl

/-- What a loss of the memory link makes of the state (R138). -/
def State.memoryLinkLost (s : State) : State :=
  (s.clearDownstream.updMem fun m => { m with link := .down }).raise (.down .linkLost)

theorem State.memoryLinkLost_cleared (s : State) : ClearedDownstream s s.memoryLinkLost := by
  obtain ⟨table, -, issuing, ports, classes⟩ := s.clearDownstream_cleared
  refine ⟨table, ?_, issuing, ports, classes⟩
  simp only [State.memoryLinkLost, State.raise_mem, State.updMem_mem, s.clearDownstream_mem]

theorem State.memoryLinkLost_retrain (s : State) : s.memoryLinkLost.mem.retrain = s.mem.retrain := by
  simp only [State.memoryLinkLost, State.raise_mem, State.updMem_mem, s.clearDownstream_mem]

/-- Beside LINK_LOST, a loss touches the memory port, the ISSUING entry, the ports and the wait clocks alone. -/
theorem State.memoryLinkLost_frame (s : State) :
    s.memoryLinkLost = { s.withCause 12 5 with
      mem := s.memoryLinkLost.mem, issuing := s.memoryLinkLost.issuing, ports := s.memoryLinkLost.ports
      classes := s.memoryLinkLost.classes } := by
  rw [State.memoryLinkLost, s.clearDownstream_frame]
  rfl

section memory
variable {s : State} (hr : s.pins.rstLow = false)
include hr

theorem exec_memTraining (hl : s.mem.link ≠ .up) :
    exec .memTraining s = .next { s with mem := { s.mem with link := .training, retrain := false } } := by
  show execMemTraining s = _
  rw [execMemTraining, if_pos (by simp [State.awake, hr, hl])]
  rfl

theorem exec_memLinkUp (hl : s.mem.link = .training) (n : BitVec 6) :
    exec (.memLinkUp n) s = .next (s.memoryLinkUp n.toNat) := by
  show execMemLinkUp n s = _
  rw [execMemLinkUp, if_pos (by simp [State.awake, hr, hl])]

theorem exec_memLinkLost (hl : s.mem.link = .up) : exec .memLinkLost s = .next s.memoryLinkLost := by
  show execMemLinkLost s = _
  rw [execMemLinkLost, if_pos (by simp [State.awake, hr, hl]), State.memoryLinkLost]

end memory

/-- Settles O38: each event is its record where the link's state lets it come. -/
theorem memoryLink : Obligations.MemoryLink := by
  intro s hr
  refine ⟨fun hl => exec_memTraining hr ?_, fun n hl hlow hhigh => ?_, fun n hl hn => ?_, fun hl => ?_⟩
  · rcases hl with hl | hl <;> simp [hl]
  · rw [exec_memLinkUp hr hl, State.memoryLinkUp_eq, if_pos ⟨hlow, hhigh⟩]
  · rw [exec_memLinkUp hr hl, State.memoryLinkUp_eq, if_neg (by omega)]
  · exact ⟨_, exec_memLinkLost hr hl, s.memoryLinkLost_cleared, rfl, s.memoryLinkLost_retrain,
      s.memoryLinkLost_frame⟩

end Sys2Proof.Machine


/-! # Packets as they are laid out (R73 to R80, R83) -/

namespace Sys2Proof.Machine

/-! ## Codes and headers -/

/-- A Kind code names its kind (R83). -/
theorem kindOfCode_code (k : PacketKind) : kindOfCode k.code = some k := by cases k <;> rfl

theorem PacketKind.code_lt (k : PacketKind) : k.code < 16 := by cases k <;> decide

theorem Answer.reasonCode_lt (a : Answer) : a.reasonCode < 16 := by
  cases a with
  | refused reason => cases reason <;> decide
  | _ => exact Nat.zero_lt_succ _

/-- The header of a packet is the number its first bytes were made from, written in another form. -/
theorem leNat_take_of_eq {k n header : Nat} (payload : List Byte) (hn : n = header) (hlt : header < 256 ^ k) :
    leNat ((leBytes k n ++ payload).take k) = header := by
  rw [hn, leNat_take_leBytes k header payload hlt]

/-- A packet made of a header number of `k` bytes and a payload has this length, header and payload. -/
theorem leBytes_laid {k n header : Nat} (payload : List Byte) (hn : n = header) (hlt : header < 256 ^ k) :
    (leBytes k n ++ payload).length = k + payload.length ∧ leNat ((leBytes k n ++ payload).take k) = header
      ∧ (leBytes k n ++ payload).drop k = payload :=
  ⟨by rw [List.length_append, leBytes_length], leNat_take_of_eq payload hn hlt, drop_leBytes k n payload⟩

/-! ## Packets received -/

/-- The header of a request from a host, field by field (R73, R83). -/
theorem hostHeader_hostRequestBytes (kind : ReqKind) (tag : HostTag) (stream : Stream) {length : Nat}
    (unitAddr : UnitAddr) (payload : List Byte) (hl : length < 16) :
    hostHeader (hostRequestBytes kind tag stream length unitAddr payload) =
      kind.packetKind.code + 2 ^ 4 * tag.toNat + 2 ^ 9 * stream.toNat + 2 ^ 13 * length
        + 2 ^ 32 * unitAddr.toNat := by
  have hk := kind.packetKind.code_lt
  have ht := tag.isLt
  have hs := stream.isLt
  have hu := unitAddr.isLt
  refine leNat_take_of_eq payload ?_ (by omega)
  simp only [field_of_lt, hk, ht, hs, hu, hl, Nat.reducePow, Nat.one_mul, Nat.pow_zero]

/-- A request from a host is read as it was made (R73). -/
theorem readHostPacket_hostRequestBytes (kind : ReqKind) (tag : HostTag) (stream : Stream) {length : Nat}
    (unitAddr : UnitAddr) (payload : List Byte) (hl : length < 16) :
    readHostPacket (hostRequestBytes kind tag stream length unitAddr payload) =
      { wholeHeader := true, kind := some kind.packetKind, hostTag := tag, stream := stream
        length := length, unitAddr := unitAddr, payloadBytes := payload.length
        payload := payload.take 256 } := by
  have header := hostHeader_hostRequestBytes kind tag stream unitAddr payload hl
  have size : (hostRequestBytes kind tag stream length unitAddr payload).length = 8 + payload.length := by
    rw [hostRequestBytes, List.length_append, leBytes_length]
  have rest : (hostRequestBytes kind tag stream length unitAddr payload).drop 8 = payload := drop_leBytes ..
  have hk := kind.packetKind.code_lt
  have ht := tag.isLt
  have hs := stream.isLt
  have hu := unitAddr.isLt
  rw [readHostPacket, header, size, rest, HostPacket.mk.injEq]
  simp only [bitsOf]
  refine ⟨by simp, ?kindField, ?tagField, ?streamField, by omega, ?addressField, by omega, rfl⟩
  case kindField => exact (congrArg kindOfCode (by omega)).trans (kindOfCode_code _)
  case tagField => exact BitVec.eq_of_toNat_eq (by rw [BitVec.toNat_ofNat]; omega)
  case streamField => exact BitVec.eq_of_toNat_eq (by rw [BitVec.toNat_ofNat]; omega)
  case addressField => exact BitVec.eq_of_toNat_eq (by rw [BitVec.toNat_ofNat]; omega)

/-- The header of a response from the memory, field by field (R79, R83). -/
theorem memHeader_memResponseBytes (kind : PacketKind) (tag : DTag) {length : Nat} (payload : List Byte)
    (hl : length < 16) :
    memHeader (memResponseBytes kind tag length payload) = kind.code + 2 ^ 4 * tag.val + 2 ^ 10 * length := by
  have hk := kind.code_lt
  have ht := tag.isLt
  refine leNat_take_of_eq payload ?_ (by omega)
  simp only [field_of_lt, hk, ht, hl, Nat.reducePow, Nat.one_mul, Nat.pow_zero]

/-- A response from the memory is read as it was made; its Count bits are its tag's (R79). -/
theorem readMemPacket_memResponseBytes (kind : PacketKind) (tag : DTag) {length : Nat} (payload : List Byte)
    (hl : length < 16) :
    readMemPacket (memResponseBytes kind tag length payload) =
      { wholeHeader := true, kind := some kind, tag := tag, length := length, count := tag.val
        payloadBytes := payload.length, payload := payload.take 256 } := by
  have header := memHeader_memResponseBytes kind tag payload hl
  have size : (memResponseBytes kind tag length payload).length = 4 + payload.length := by
    rw [memResponseBytes, List.length_append, leBytes_length]
  have rest : (memResponseBytes kind tag length payload).drop 4 = payload := drop_leBytes ..
  have hk := kind.code_lt
  have ht := tag.isLt
  rw [readMemPacket, header, size, rest, MemPacket.mk.injEq]
  simp only [bitsOf]
  refine ⟨by simp, ?kindField, ?tagField, by omega, by omega, by omega, rfl⟩
  case kindField => exact (congrArg kindOfCode (by omega)).trans (kindOfCode_code _)
  case tagField => exact Fin.ext (by rw [Fin.val_ofNat]; omega)

/-- A CREDIT message from the memory is a response header with its Count in the place of the tag (R80, R83). -/
theorem memCreditBytes_eq {count : Nat} (h : count < 64) :
    memCreditBytes count = memResponseBytes .credit ⟨count, h⟩ 0 [] := by
  simp [memCreditBytes, memResponseBytes, field]

/-! ## Packets sent -/

/-- The layout of a response to a host (R75, R83). -/
theorem Response.bytes_laid (r : Response) {header : Nat} (hl : r.answer.length < 16)
    (hh : header = r.answer.packetKind.code + 2 ^ 4 * r.hostTag.toNat + 2 ^ 9 * r.answer.reasonCode
      + 2 ^ 13 * r.answer.length) :
    r.bytes.length = 4 + r.answer.payload.length ∧ leNat (r.bytes.take 4) = header
      ∧ r.bytes.drop 4 = r.answer.payload := by
  have hk := r.answer.packetKind.code_lt
  have ht := r.hostTag.isLt
  have hc := r.answer.reasonCode_lt
  refine leBytes_laid _ ?_ (by omega)
  simp only [field_of_lt, hk, ht, hc, hl, hh, Nat.reducePow, Nat.one_mul, Nat.pow_zero]

/-- The layout of a CREDIT message to a host (R76, R83). -/
theorem hostCreditBytes_laid {count : Nat} (h : count ≤ 64) :
    (hostCreditBytes count).length = 4 ∧ leNat ((hostCreditBytes count).take 4) = 0x4 + 2 ^ 4 * count
      ∧ (hostCreditBytes count).drop 4 = [] := by
  rw [← List.append_nil (hostCreditBytes count)]
  refine leBytes_laid [] ?_ (by omega)
  rw [field_of_lt 4 (by omega : count < 2 ^ 7)]
  rfl

theorem ReqKind.code_eq (kind : ReqKind) : kind.packetKind.code = if kind = .read then 0x1 else 0x2 := by
  cases kind <;> rfl

/-- The layout of a request on D (R78, R83). -/
theorem DPacket.bytes_laid (d : DPacket) (hl : d.entry.length < 16) :
    d.bytes.length = 8 + d.entry.data.length
      ∧ leNat (d.bytes.take 8) = (if d.entry.kind = .read then 0x1 else 0x2) + 2 ^ 4 * d.tag.val
        + 2 ^ 10 * d.entry.stream.toNat + 2 ^ 14 * d.entry.length + 2 ^ 18 * d.entry.port.val
        + 2 ^ 20 * d.entry.hostTag.toNat + 2 ^ 32 * d.entry.unitAddr.toNat
      ∧ d.bytes.drop 8 = d.entry.data := by
  have hk := d.entry.kind.packetKind.code_lt
  have ht := d.tag.isLt
  have hs := d.entry.stream.isLt
  have hp := d.entry.port.isLt
  have hh := d.entry.hostTag.isLt
  have hu := d.entry.unitAddr.isLt
  rw [← ReqKind.code_eq]
  refine leBytes_laid _ ?_ (by omega)
  simp only [field_of_lt, hk, ht, hs, hp, hh, hu, hl, Nat.reducePow, Nat.one_mul, Nat.pow_zero]

/-- Settles O58: received packets by their read-back lemmas, sent ones by the layout of their kind. -/
theorem packetsRoundTrip : Obligations.PacketsRoundTrip := by
  unfold Obligations.PacketsRoundTrip
  intro laid
  refine ⟨fun kind tag stream length unitAddr payload hl => ?request, fun kind tag length payload hl => ?response,
    fun count h => ?credit, fun tag length payload hl => ?data, fun tag => ?other, fun count h => ?hostCredit,
    fun d hl => d.bytes_laid hl, fun k => ?sending⟩
  case request => exact readHostPacket_hostRequestBytes kind tag stream unitAddr payload hl
  case response => exact readMemPacket_memResponseBytes kind tag payload hl
  case credit =>
    have read := readMemPacket_memResponseBytes .credit ⟨count, h⟩ [] (length := 0) (by decide)
    rw [memCreditBytes_eq h, read]
    exact ⟨rfl, rfl, by rw [memResponseBytes, List.length_append, leBytes_length, List.length_nil]⟩
  case data => exact Response.bytes_laid ⟨tag, .data length payload⟩ hl rfl
  case other =>
    have short (a : Answer) {header : Nat} (h0 : a.length = 0) (hp : a.payload = [])
        (hh : header = a.packetKind.code + 2 ^ 4 * tag.toNat + 2 ^ 9 * a.reasonCode) :
        laid 4 header [] (Response.bytes ⟨tag, a⟩) := by
      have h := Response.bytes_laid ⟨tag, a⟩ (header := header) (by simp [h0]) (by simpa [h0] using hh)
      rwa [hp] at h
    exact ⟨short .done rfl rfl rfl, short (.refused .malformed) rfl rfl rfl, short (.refused .range) rfl rfl rfl,
      short (.refused .denied) rfl rfl rfl, short (.refused .classOff) rfl rfl rfl,
      short (.refused .classFull) rfl rfl rfl, short .timeout rfl rfl rfl, short .aborted rfl rfl rfl,
      short .failed rfl rfl rfl⟩
  case hostCredit => exact hostCreditBytes_laid h
  case sending =>
    refine ⟨fun h => ?_, fun n h => ?_, fun r rest h hq => ?_⟩
    · rw [PortRec.sending, h]
    · rw [PortRec.sending, h]
    · rw [PortRec.sending, h, hq]; rfl

end Sys2Proof.Machine


/-! # Arrivals that are turned away, and the upstream transmitter (R74, R77, R95 to R101, R116) -/

namespace Sys2Proof.Machine

section host
variable {s : State} (hr : s.pins.rstLow = false) {p : Port}
include hr

theorem exec_arrivalEvent (hl : (s.ports.get p).linkUp = true) (packet : List Byte) :
    exec (.arrivalEvent p packet) s = .next (s.arrive p (readHostPacket packet)) := by
  show execArrivalEvent p packet s = _
  rw [execArrivalEvent, if_pos (by simp [State.awake, hr, hl])]

theorem exec_upstreamSendBegin (hl : (s.ports.get p).linkUp = true) (ht : (s.ports.get p).upTx = .idle) :
    exec (.upstreamSendBegin p) s = .next (s.withPort p (s.ports.get p).beginSend) := by
  show execUpstreamSendBegin p s = _
  rw [execUpstreamSendBegin, if_pos (by simp [State.awake, hr, hl, ht])]
  rfl

theorem exec_creditSendEnd {n : Nat} (ht : (s.ports.get p).upTx = .credit n) :
    exec (.creditSendEnd p) s = .next (s.withPort p { s.ports.get p with upTx := .idle }) := by
  show execCreditSendEnd p s = _
  simp only [execCreditSendEnd, ht, State.awake, hr, Bool.not_false, if_true]
  rfl

end host

/-! ## The outcomes of an arrival -/

/-- A packet that passes step 1 for no kind is discarded (R74). -/
theorem State.arrive_of_not_admits {s : State} {p : Port} {k : HostPacket} (h : ∀ kind, ¬s.Admits p k kind) :
    s.arrive p k = s.discardPacket p := by
  have hk : (s.ports.get p).admits k = none :=
    Option.eq_none_iff_forall_ne_some.mpr fun kind hk => h kind ((s.admits_iff p k kind).mp hk)
  rw [State.arrive, hk]

/-- A discarded packet counts one protocol fault and raises FAULT (R74, R116). -/
theorem State.discardPacket_eq (s : State) (p : Port) :
    s.discardPacket p = (s.withPort p { s.ports.get p with
      protocolFaults := counted (s.ports.get p).protocolFaults 1 }).withCause (portGroup p) 3 := by
  rw [← bump_eq]
  rfl

/-- A request that fails one of steps 2 to 6 is refused with the reason of the first (R95, R101). -/
theorem State.arrive_of_refusedFor {s : State} {p : Port} {k : HostPacket} {kind : ReqKind}
    {reason : RefusalReason} {cls : Option ClassId} (hk : s.Admits p k kind)
    (hv : s.RefusedFor p kind k reason cls) :
    s.arrive p k = (s.updPort p (·.admitTag k.hostTag)).refuseRequest p k.hostTag reason cls := by
  rw [State.arrive, (s.admits_iff p k kind).mpr hk]
  dsimp only
  rw [State.intake_of_refusedFor hv]

/-- The class side of a refusal: one more refusal of the class, and FULL for CLASS_FULL alone (R101). -/
theorem State.refuseInClass_eq (s : State) (reason : RefusalReason) (c : ClassId) :
    s.refuseInClass reason c = { s with
      groups := if reason = .classFull then (s.withCause (classGroup c) 3).groups else s.groups
      classes := s.classes.put c { s.classes.get c with
        classRefusals := counted (s.classes.get c).classRefusals 1 } } := by
  rw [← bump_eq]
  cases reason <;> rfl

/-- The port side of a refusal: its count, the answer at the tail of the queue and the credit while OPEN (R101). -/
def PortRec.refused (k : PortRec) (tag : HostTag) (reason : RefusalReason) : PortRec :=
  ({ k with
    requestsRefused := counted k.requestsRefused 1
    queue := k.queue ++ [⟨tag, .refused reason⟩] } : PortRec).given 1

/-- A refusal touches the port, the causes and, where a class is named, that class (R101). -/
theorem State.refuseRequest_eq (s : State) (p : Port) (tag : HostTag) (reason : RefusalReason)
    (cls : Option ClassId) :
    s.refuseRequest p tag reason cls = { s with
      ports := s.ports.put p ((s.ports.get p).refused tag reason)
      groups := match cls with
        | some c => if reason = .classFull then ((s.withCause (portGroup p) 4).withCause (classGroup c) 3).groups
            else (s.withCause (portGroup p) 4).groups
        | none => (s.withCause (portGroup p) 4).groups
      classes := match cls with
        | some c => s.classes.put c { s.classes.get c with
            classRefusals := counted (s.classes.get c).classRefusals 1 }
        | none => s.classes } := by
  simp only [State.refuseRequest, bump_eq]
  cases cls with
  | none => rfl
  | some c =>
    dsimp only
    rw [State.refuseInClass_eq]
    rfl

/-- Settles O28: an arrival is discarded or refused, and either is one record. -/
theorem arrivalsTurnedAway : Obligations.ArrivalsTurnedAway := by
  intro p packet s hr hl
  refine ⟨fun h => ?discarded, fun kind reason cls hk hv => ⟨_, exec_arrivalEvent hr hl packet, ?refused⟩⟩
  case discarded => rw [exec_arrivalEvent hr hl, State.arrive_of_not_admits h, State.discardPacket_eq]
  case refused =>
    rw [State.arrive_of_refusedFor hk hv, State.refuseRequest_eq, State.updPort_ports, Table.get_put_self,
      Table.put_put]
    exact ⟨rfl, rfl, rfl, rfl⟩

/-- Settles O31: the choice of an idle transmitter is `PortRec.beginSend`, case by case. -/
theorem upstreamTransmitter : Obligations.UpstreamTransmitter := by
  intro p s hr
  refine ⟨fun hl ht => ?begins, fun n ht => exec_creditSendEnd hr ht⟩
  case begins =>
    rw [exec_upstreamSendBegin hr hl ht, PortRec.beginSend]
    by_cases hp : 0 < (s.ports.get p).pendingCredits
    · simp only [hp, if_true]
    · by_cases hq : (s.ports.get p).queue = []
      · simp [hp, hq, State.withPort]
      · simp [hp, hq]

end Sys2Proof.Machine


/-! # Packets from the memory (R79, R80, R127, R132 to R134) -/

namespace Sys2Proof.Machine

section memory
variable {s : State} (hr : s.pins.rstLow = false) (hl : s.mem.link = .up)
include hr hl

theorem exec_memoryResponse (packet : List Byte) :
    exec (.memoryResponse packet) s = .next (s.memoryPacket (readMemPacket packet)) := by
  show execMemoryResponse packet s = _
  rw [execMemoryResponse, if_pos (by simp [State.memoryListens, State.awake, hr, hl])]

theorem exec_memCredit (packet : List Byte) :
    exec (.memCredit packet) s = .next (s.memoryPacket (readMemPacket packet)) := by
  show execMemCredit packet s = _
  rw [execMemCredit, if_pos (by simp [State.memoryListens, State.awake, hr, hl])]

end memory

/-! ## A packet by its Kind -/

/-- A response is DATA, DONE or ERROR (R79). -/
def MemPacket.IsResponse (k : MemPacket) : Prop := k.kind = some .data ∨ k.kind = some .done ∨ k.kind = some .error

theorem State.memoryPacket_of_isResponse {s : State} {k : MemPacket} (h : k.IsResponse) :
    s.memoryPacket k = s.memoryResponse k := by
  rcases h with h | h | h <;> rw [State.memoryPacket, h]

theorem State.memoryPacket_of_credit {s : State} {k : MemPacket} (h : k.kind = some .credit) :
    s.memoryPacket k = s.memoryCredit k.count := by
  rw [State.memoryPacket, h]

/-- A packet of a kind that the memory should not send (R80). -/
theorem State.memoryPacket_of_wrongKind {s : State} {k : MemPacket} (h : ¬k.IsResponse) (hc : k.kind ≠ some .credit) :
    s.memoryPacket k = s.unexpectedResponse := by
  unfold State.memoryPacket
  split
  · next hk => exact absurd (.inl hk) h
  · next hk => exact absurd (.inr (.inl hk)) h
  · next hk => exact absurd (.inr (.inr hk)) h
  · next hk => exact absurd hk hc
  · rfl

/-! ## A response by the state of its tag's entry -/

/-- A response matches the entry of its tag (R132): the kind that the request awaits, of its Length and of correct
form. -/
theorem FlightRecord.matched_iff (r : FlightRecord) (k : MemPacket) :
    r.matched k = true ↔ k.wholeHeader = true ∧ k.length = r.length
      ∧ ((r.kind = .read ∧ k.kind = some .data ∧ k.payloadBytes = 32 * k.length ∧ k.payloadBytes ≤ 256)
        ∨ (r.kind = .write ∧ k.kind = some .done ∧ k.payloadBytes = 0)) := by
  unfold FlightRecord.matched MemPacket.correctForm Config.unitBytes Config.maxPayload
  cases hr : r.kind with
  | read =>
    by_cases hk : k.kind = some .data
    · simp [hk, and_left_comm, Nat.mul_comm]
    · simp [hk]
  | write =>
    by_cases hk : k.kind = some .done
    · simp [hk, and_left_comm]
    · simp [hk]

/-- An ERROR matches no entry (R133). -/
theorem FlightRecord.not_matched_of_error (r : FlightRecord) {k : MemPacket} (h : k.kind = some .error) :
    r.matched k = false := by
  rw [FlightRecord.matched, h]
  cases r.kind <;> rfl

section response
variable {s : State} {k : MemPacket} {r : FlightRecord} {left : Option Nat}

/-- A response that matches is forwarded (R132). -/
theorem State.memoryResponse_of_matched (he : s.mem.table.get k.tag = .inFlight r left) (hm : r.matched k = true) :
    s.memoryResponse k = (s.freeTag k.tag).answer r.port
      ⟨r.hostTag, if r.kind = .read then .data r.length k.payload else .done⟩ := by
  rw [State.memoryResponse, he]
  dsimp only
  rw [State.answerInFlight, if_pos hm, FlightRecord.forward]
  cases r.kind <;> rfl

/-- An ERROR for an IN_FLIGHT entry is answered FAILED, with MEM_ERROR and its counter (R133). -/
theorem State.memoryResponse_of_error (he : s.mem.table.get k.tag = .inFlight r left) (hk : k.kind = some .error) :
    s.memoryResponse k = { ((s.freeTag k.tag).answer r.port ⟨r.hostTag, .failed⟩).withCause 12 3 with
      mem := { s.mem with table := s.mem.table.put k.tag .free, memoryErrors := counted s.mem.memoryErrors 1 } } := by
  rw [State.memoryResponse, he]
  dsimp only
  rw [State.answerInFlight, if_neg (by simp [r.not_matched_of_error hk]), if_pos hk, ← bump_eq]
  rfl

/-- A mismatch for an IN_FLIGHT entry is answered FAILED, with UNEXPECTED (R133). -/
theorem State.memoryResponse_of_mismatch (he : s.mem.table.get k.tag = .inFlight r left) (hm : ¬r.matched k = true)
    (hk : k.kind ≠ some .error) :
    s.memoryResponse k = ((s.freeTag k.tag).answer r.port ⟨r.hostTag, .failed⟩).withCause 12 2 := by
  rw [State.memoryResponse, he]
  dsimp only
  rw [State.answerInFlight, if_neg hm, if_neg hk]
  rfl

/-- A response for an ORPHAN entry frees its tag (R134). -/
theorem State.memoryResponse_of_orphan (he : s.mem.table.get k.tag = .orphan r left) :
    s.memoryResponse k = s.freeTag k.tag := by
  rw [State.memoryResponse, he]

/-- A response for a LATE entry frees its tag and is counted, with LATE (R134). -/
theorem State.memoryResponse_of_late (he : s.mem.table.get k.tag = .late r) :
    s.memoryResponse k = { s.withCause 12 1 with
      mem := { s.mem with
        table := s.mem.table.put k.tag .free, lateDiscarded := counted s.mem.lateDiscarded 1 } } := by
  rw [State.memoryResponse, he, ← bump_eq]
  rfl

/-- A response for a FREE tag is unexpected (R134). -/
theorem State.memoryResponse_of_free (he : s.mem.table.get k.tag = .free) :
    s.memoryResponse k = s.unexpectedResponse := by
  rw [State.memoryResponse, he]

end response

/-- An unexpected packet is counted, with UNEXPECTED (R80, R134). -/
theorem State.unexpectedResponse_eq (s : State) :
    s.unexpectedResponse = { s.withCause 12 2 with
      mem := { s.mem with unexpectedResponses := counted s.mem.unexpectedResponses 1 } } := by
  rw [← bump_eq]
  rfl

/-- Settles O36: the packet's kind, then the state of the entry, then the match decide which record it is. -/
theorem memoryResponses : Obligations.MemoryResponses := by
  intro packet s hr hl
  rw [exec_memoryResponse hr hl]
  intro k freed answered response matches'
  have matched (r : FlightRecord) : r.matched k = true ↔ matches' r := r.matched_iff k
  have run (h : response) : s.memoryPacket k = s.memoryResponse k := State.memoryPacket_of_isResponse h
  refine ⟨fun r left h he hm => congrArg _ ?forwarded, fun r left he hk => congrArg _ ?error,
    fun r left h he hm hk => congrArg _ ?mismatch, fun r left h he => congrArg _ ?orphan,
    fun r h he => congrArg _ ?late, fun h hc => congrArg _ ?unexpected⟩
  case forwarded => exact (run h).trans (State.memoryResponse_of_matched he ((matched r).mpr hm))
  case error => exact (run (.inr (.inr hk))).trans (State.memoryResponse_of_error he hk)
  case mismatch => exact (run h).trans (State.memoryResponse_of_mismatch he (mt (matched r).mp hm) hk)
  case orphan => exact (run h).trans (State.memoryResponse_of_orphan he)
  case late => exact (run h).trans (State.memoryResponse_of_late he)
  case unexpected =>
    rw [← State.unexpectedResponse_eq]
    by_cases hk : response
    · exact (run hk).trans (State.memoryResponse_of_free (h hk))
    · exact State.memoryPacket_of_wrongKind hk hc

/-! ## CREDIT messages -/

/-- The credits rise by the Count, and stop at N with CREDIT_FAULT where a Count above 0 would pass it (R127). -/
theorem State.memoryCredit_eq (s : State) (n : Nat) :
    s.memoryCredit n = if n = 0 ∨ s.mem.credits + n ≤ s.mem.announced then
        { s with mem := { s.mem with credits := s.mem.credits + n } }
      else { s.withCause 12 4 with mem := { s.mem with credits := s.mem.announced } } := by
  unfold State.memoryCredit
  by_cases h : n = 0 ∨ s.mem.credits + n ≤ s.mem.announced
  · rw [if_pos h, if_neg (by omega)]
    rfl
  · rw [if_neg h, if_pos (by omega)]
    rfl

/-- Settles O37: a CREDIT message is `State.memoryCredit` of its Count. -/
theorem memoryCredits : Obligations.MemoryCredits := by
  intro packet s hr hl hk
  exact (exec_memCredit hr hl packet).trans
    (congrArg _ ((State.memoryPacket_of_credit hk).trans (s.memoryCredit_eq _)))

end Sys2Proof.Machine


/-! # The flow table (R86 to R91, R94)

What each command leaves of the flow table, SWAP_BANKS, and the words of a flow entry. -/

namespace Sys2Proof.Machine

/-! ## What leaves the flow table alone -/

theorem State.flow_ite {s t u : State} {p : Prop} [Decidable p] (ht : t.flow = s.flow) (hu : u.flow = s.flow) :
    (if p then t else u).flow = s.flow := by
  split
  · exact ht
  · exact hu

section unchanged
variable (s : State)

/-! Host ports. -/

@[simp] theorem State.portLinkUp_flow (p : Port) : (s.portLinkUp p).flow = s.flow := by
  unfold State.portLinkUp
  cases (s.ports.get p).state <;> rfl

@[simp] theorem State.portLinkLost_flow (p : Port) : (s.portLinkLost p).flow = s.flow := s.flow_ite rfl rfl

@[simp] theorem State.responseSent_flow (p : Port) : (s.responseSent p).flow = s.flow := s.flow_ite rfl rfl

theorem State.openPort_flow {p : Port} {t : State} (h : s.openPort p = .ok t) : t.flow = s.flow := by
  unfold State.openPort at h
  split at h
  · cases h; rfl
  · cases h; exact s.flow_ite rfl rfl
  · cases h

theorem State.closePort_flow {p : Port} {t : State} (h : s.closePort p = .ok t) : t.flow = s.flow := by
  unfold State.closePort at h
  split at h
  · cases h; exact s.flow_ite rfl rfl
  · cases h; rfl
  · cases h

theorem State.resetPort_flow {p : Port} {t : State} (h : s.resetPort p = .ok t) : t.flow = s.flow := by
  unfold State.resetPort at h
  split at h
  · cases h
  · cases h; exact s.flow_ite rfl rfl

@[simp] theorem State.refuseInClass_flow (reason : RefusalReason) (c : ClassId) :
    (s.refuseInClass reason c).flow = s.flow := by
  cases reason <;> rfl

@[simp] theorem State.refuseRequest_flow (p : Port) (tag : HostTag) (reason : RefusalReason) (cls : Option ClassId) :
    (s.refuseRequest p tag reason cls).flow = s.flow := by
  cases cls with
  | none => rfl
  | some c => exact State.refuseInClass_flow _ reason c

@[simp] theorem State.takeRequest_flow (e : StoreEntry) : (s.takeRequest e).flow = s.flow := by
  rw [State.takeRequest_eq]

/-! The arbiter and the memory port. -/

@[simp] theorem State.settleTenure_flow : s.settleTenure.flow = s.flow := by
  rw [State.settleTenure_frame]

@[simp] theorem State.grant_flow (c : ClassId) (kind : GrantKind) (e : StoreEntry) (d : DTag) :
    (s.grant c kind e d).flow = s.flow := by
  rw [State.grant_eq]

@[simp] theorem State.freeIssuing_flow : s.freeIssuing.flow = s.flow := by
  unfold State.freeIssuing
  split <;> rfl

@[simp] theorem State.clearDownstream_flow : s.clearDownstream.flow = s.flow := by
  rw [State.clearDownstream_frame]

@[simp] theorem State.memoryResponse_flow (k : MemPacket) : (s.memoryResponse k).flow = s.flow := by
  unfold State.memoryResponse
  cases s.mem.table.get k.tag with
  | inFlight r => exact s.flow_ite rfl (s.flow_ite rfl rfl)
  | orphan | late | free => rfl

@[simp] theorem State.memoryPacket_flow (k : MemPacket) : (s.memoryPacket k).flow = s.flow := by
  unfold State.memoryPacket
  split
  · exact s.memoryResponse_flow k
  · exact s.memoryResponse_flow k
  · exact s.memoryResponse_flow k
  · exact s.flow_ite rfl rfl
  · rfl

@[simp] theorem State.memoryLinkUp_flow (n : Nat) : (s.memoryLinkUp n).flow = s.flow := s.flow_ite rfl rfl

@[simp] theorem State.timeOut_flow (d : DTag) : (s.timeOut d).flow = s.flow := by
  unfold State.timeOut
  split
  · exact s.flow_ite rfl rfl
  · exact s.flow_ite rfl rfl
  · rfl

/-! Classes, counters, TRAFFIC_RESET and the management link. -/

@[simp] theorem State.setWaitLimit_flow (c : ClassId) (n : Nat) : (s.setWaitLimit c n).flow = s.flow :=
  s.flow_ite rfl (s.flow_ite rfl rfl)

@[simp] theorem State.clearCounter_flow (n : CounterId) : (s.clearCounter n).flow = s.flow := by
  cases n <;> rfl

@[simp] theorem State.trafficReset_flow : s.trafficReset.flow = s.flow :=
  (congrArg State.flow (s.resetTraffic_same (Config.storePartFirst s.freeIndex)) :)

@[simp] theorem State.captureAt_flow (a : Addr) : (s.captureAt a).flow = s.flow := by
  unfold State.captureAt State.captureWord
  split <;> rfl

@[simp] theorem State.takeAddress_flow (a : Addr) : (s.takeAddress a).flow = s.flow := by
  unfold State.takeAddress
  split
  · exact State.captureAt_flow _ a
  · rfl
  · rfl

@[simp] theorem State.closeFrame_flow : s.closeFrame.flow = s.flow := by
  unfold State.closeFrame State.abandonClaim
  split <;> rfl

end unchanged

/-! ## The active bank (R86, R88) -/

/-- The entries of the bank that is active in `s` are in `t` what they are in `s`, whichever bank is active in `t`. -/
def ActiveBankKept (s t : State) : Prop := t.flow.banks.get s.flow.active = s.flow.banks.get s.flow.active

theorem ActiveBankKept.of_flow {s t : State} (h : t.flow = s.flow) : ActiveBankKept s t := by
  rw [ActiveBankKept, h]

/-- An entry of the other bank is replaced (R88). -/
theorem ActiveBankKept.putEntry {s : State} {b : Bank} (hb : b ≠ s.flow.active) (i : EntryIdx) (e : FlowEntry) :
    ActiveBankKept s (s.updFlow (·.putEntry b i e)) :=
  Table.get_put_of_ne _ _ hb

/-- No accepted word changes an entry of the active bank: a flow entry word is of the other bank, and the memory limit
and SWAP_BANKS leave the banks as they are. -/
theorem Accepted.activeBankKept {s t : State} (h : Accepted s t) : ActiveBankKept s t := by
  cases h with
  | flowEntry b i e hb => exact .putEntry hb i e
  | memLimit | swapBanks => exact rfl
  | waitLimit c n => exact .of_flow (s.setWaitLimit_flow c n)
  | counter n => exact .of_flow (s.clearCounter_flow n)
  | openPort p h => exact .of_flow (s.openPort_flow h)
  | closePort p h => exact .of_flow (s.closePort_flow h)
  | resetPort p h => exact .of_flow (s.resetPort_flow h)
  | resetDownstream => exact .of_flow s.clearDownstream_flow
  | trafficReset => exact .of_flow s.trafficReset_flow
  | _ => exact .of_flow rfl

/-- No command but those of RST# changes an entry of the active bank; off the WRITE frames none touches the flow
table. -/
theorem Effect.activeBankKept {s t : State} {i : Instr} (h : Effect s i t) (ha : i ≠ .rstAssert)
    (hr : ∀ b, i ≠ .rstRelease b) : ActiveBankKept s t := by
  cases h with
  | rstAssert => exact absurd rfl ha
  | rstRelease b => exact absurd rfl (hr b)
  | accepted _ h => exact h.activeBankKept
  | refused => exact .of_flow (State.refuseRequest_flow ..)
  | taken => exact .of_flow (State.takeRequest_flow ..)
  | portLinkUp p => exact .of_flow (s.portLinkUp_flow p)
  | portLinkLost p => exact .of_flow (s.portLinkLost_flow p)
  | responseSendEnd p => exact .of_flow (s.responseSent_flow p)
  | settled => exact .of_flow s.settleTenure_flow
  | granted => exact .of_flow ((State.grant_flow ..).trans s.settleTenure_flow)
  | sendEnd => exact .of_flow s.freeIssuing_flow
  | memoryPacket => exact .of_flow (s.memoryPacket_flow _)
  | memLinkUp => exact .of_flow (s.memoryLinkUp_flow _)
  | memLinkLost => exact .of_flow s.clearDownstream_flow
  | entryTimeout d => exact .of_flow (s.timeOut_flow d)
  | lastAddressBit a => exact .of_flow (s.takeAddress_flow a)
  | csRise => exact .of_flow (State.closeFrame_flow _)
  | claimCapture => exact .of_flow (s.captureAt_flow _)
  | claimCompletion => exact .of_flow (State.captureAt_flow ..)
  | snapshotSlotRead => exact .of_flow (State.captureAt_flow ..)
  | _ => exact .of_flow rfl

/-- Settles O51: every outcome of a command is one of its effects. -/
theorem activeBankUnchanged : Obligations.ActiveBankUnchanged :=
  fun _ _ _ ha hr h => (effect_of_exec h).activeBankKept ha hr

/-! ## SWAP_BANKS (R91) -/

theorem otherBank_ne : ∀ b : Bank, otherBank b ≠ b := by decide

@[simp] theorem otherBank_otherBank : ∀ b : Bank, otherBank (otherBank b) = b := by decide

/-- The indicator alone changes, so a second exchange restores the state. -/
@[simp] theorem State.swapBanks_swapBanks (s : State) : s.swapBanks.swapBanks = s := by
  simp only [State.swapBanks, State.updFlow, otherBank_otherBank]

theorem exec_swapBanks {s : State} (hw : s.WritingAt 0x0008) : exec .swapBanks s = .next s.swapBanks :=
  congrArg Host.Outcome.next (s.writeCommand_accepted hw rfl rfl)

/-- Where no entry of the active bank is valid, lookup gives the port's default (R94). -/
theorem State.looksUp_default {s : State}
    (h : ∀ i, ((s.flow.banks.get s.flow.active).get i).valid = false) (p : Port) (kind : ReqKind) (k : HostPacket) :
    s.LooksUp p kind k (s.ports.get p).defaultAction := by
  refine .inr ⟨fun i hmatch => ?_, rfl⟩
  obtain ⟨hvalid, -⟩ := hmatch
  exact Bool.false_ne_true ((h i).symm.trans hvalid)

/-- Settles O21: the exchanged state still stands at COMMAND, and has the ports of the state before. -/
theorem swapBanksExchanges : Obligations.SwapBanksExchanges := by
  intro s hw
  have back : exec .swapBanks s.swapBanks = .next s := by
    rw [exec_swapBanks (s := s.swapBanks) hw, State.swapBanks_swapBanks]
  exact ⟨s.swapBanks, exec_swapBanks hw, otherBank_ne _, rfl, back, fun h => s.swapBanks.looksUp_default h⟩

/-! ## Flow entry words (R88, R89) -/

/-- A field of a word is its bits (R169). -/
theorem ofNat_bitsOf (w : Word) (lo len : Nat) : BitVec.ofNat len (bitsOf w.toNat lo len) = w.extractLsb' lo len := by
  apply BitVec.eq_of_toNat_eq
  rw [BitVec.toNat_ofNat, BitVec.extractLsb'_toNat, bitsOf, Nat.mod_mod, Nat.shiftRight_eq_div_pow]

/-- The code of an operation names it (R169). -/
theorem operationOfCode_code (op : Operation) : operationOfCode op.code = some op := by cases op <;> rfl

/-- A valid entry with its streams or its window inverted, in the words of the statement (R89 step 3). -/
def FlowEntry.inverted (e : FlowEntry) : Bool :=
  e.valid && (decide (e.streamHigh.toNat < e.streamLow.toNat)
    || (e.windowPresent && decide (e.limit.toNat < e.base.toNat)))

/-- The consistency check refuses exactly the inverted entries. -/
theorem FlowEntry.consistent_eq (e : FlowEntry) : e.consistent = !e.inverted := by
  simp only [FlowEntry.consistent, FlowEntry.inverted, Bool.not_and, Bool.not_or, ← decide_not, not_lt]

section words
variable {b : Bank} {i : EntryIdx} {k : Fin 4} {w : Word} {s : State}

/-- A word of the active bank (R88). -/
theorem exec_flowEntryWrite_active (hw : s.WritingAt (MgmtWord.flowEntry b i k).addr) (hb : b = s.flow.active) :
    exec (.flowEntryWrite b i k w) s = .next (s.wordRefused .wrongState).wordPassed :=
  congrArg Host.Outcome.next (s.writeWord_refused hw nofun (by rw [ownFlowEntry, if_pos hb]))

/-- A word whose fields name nothing (R89 step 2). -/
theorem exec_flowEntryWrite_unnamed (hw : s.WritingAt (MgmtWord.flowEntry b i k).addr) (hb : b ≠ s.flow.active)
    (he : ((s.flow.banks.get b).get i).withWord k w = none) :
    exec (.flowEntryWrite b i k w) s = .next (s.wordRefused .badValue).wordPassed :=
  congrArg Host.Outcome.next (s.writeWord_refused hw nofun (by rw [ownFlowEntry, if_neg hb, he]))

/-- A word that makes the entry `x`: refused where `x` is inverted, else the entry is `x` (R89 step 3). -/
theorem exec_flowEntryWrite_named {x : FlowEntry} (hw : s.WritingAt (MgmtWord.flowEntry b i k).addr)
    (hb : b ≠ s.flow.active) (he : ((s.flow.banks.get b).get i).withWord k w = some x) :
    exec (.flowEntryWrite b i k w) s = .next (if x.inverted = true then (s.wordRefused .badValue).wordPassed
      else (s.updFlow (·.putEntry b i x)).wordPassed) := by
  have hown : ownFlowEntry b i k w s = accept (!x.inverted) .badValue (s.updFlow (·.putEntry b i x)) := by
    rw [ownFlowEntry, if_neg hb, he, ← FlowEntry.consistent_eq]
  rw [← ite_not]
  exact congrArg Host.Outcome.next (s.writeWord_checked hw nofun hown (by simp) rfl)

end words

/-! What each word makes of an entry. -/

section entry
variable (e : FlowEntry) {w : Word}

theorem FlowEntry.withWord_streams :
    e.withWord 0 w = some { e with streamLow := w.extractLsb' 0 4, streamHigh := w.extractLsb' 4 4 } := by
  simp only [FlowEntry.withWord, ofNat_bitsOf]

theorem FlowEntry.withWord_base : e.withWord 1 w = some { e with base := w.extractLsb' 0 31 } := by
  simp only [FlowEntry.withWord, ofNat_bitsOf]

theorem FlowEntry.withWord_limit : e.withWord 2 w = some { e with limit := w.extractLsb' 0 31 } := by
  simp only [FlowEntry.withWord, ofNat_bitsOf]

theorem FlowEntry.withWord_action {op : Operation} {a : Action} (hop : bitsOf w.toNat 2 2 = op.code)
    (ha : bitsOf w.toNat 8 4 = a.code) :
    e.withWord 3 w = some { e with
      valid := w.getLsbD 0, windowPresent := w.getLsbD 1, operation := op
      portSet := w.extractLsb' 4 4, action := a } := by
  simp only [FlowEntry.withWord, hop, ha, operationOfCode_code, actionOfCode_code, ofNat_bitsOf]

/-- Operation code 3 and the Action codes above 8 name nothing (R169). -/
theorem FlowEntry.withWord_unnamed (h : bitsOf w.toNat 2 2 = 3 ∨ 8 < bitsOf w.toNat 8 4) : e.withWord 3 w = none := by
  rcases h with hop | ha
  · simp only [FlowEntry.withWord, hop, operationOfCode]
  · simp only [FlowEntry.withWord, actionOfCode_of_gt ha]
    cases operationOfCode _ <;> rfl

end entry

/-- Settles O11: each word by what it makes of the entry. -/
theorem flowEntryWrites : Obligations.FlowEntryWrites := by
  intro b i w s e at' inverted put refused outcome
  refine ⟨fun k hw hb => exec_flowEntryWrite_active hw hb, fun hb hw => ?streams, fun hb hw => ?base,
    fun hb hw => ?limit, fun hb hw => ⟨fun op a hop ha => ?action, fun h => ?unnamed⟩⟩
  case streams => exact exec_flowEntryWrite_named (k := 0) hw hb e.withWord_streams
  case base => exact exec_flowEntryWrite_named (k := 1) hw hb e.withWord_base
  case limit => exact exec_flowEntryWrite_named (k := 2) hw hb e.withWord_limit
  case action => exact exec_flowEntryWrite_named (k := 3) hw hb (e.withWord_action hop ha)
  case unnamed => exact exec_flowEntryWrite_unnamed (k := 3) hw hb (e.withWord_unnamed h)

end Sys2Proof.Machine


/-! # Host ports: their commands, the end of a response and the credit limits (R107, R108, R113, R114, R118, R119) -/

namespace Sys2Proof.Machine

/-- A port serves its host while it is OPEN or CLOSING (R14, R19). -/
theorem PortState.serving_iff (st : PortState) : st.serving = true ↔ st = .opened ∨ st = .closing := by
  cases st <;> simp [PortState.serving]

/-! ## OPEN_PORT and CLOSE_PORT by the state of the port -/

section commands
variable {s : State} {p : Port}

/-- A DISABLED port waits for its link, which it permits to train (R107). -/
theorem State.openPort_of_disabled (h : (s.ports.get p).state = .disabled) :
    s.openPort p = .ok (s.withPort p { s.ports.get p with state := .waiting, linkRequest := .permit }) := by
  rw [State.openPort, h]
  rfl

/-- A CLOSED port whose link is up enters OPEN with its credits advertised (R107, R113). -/
theorem State.openPort_of_closed_up (h : (s.ports.get p).state = .closed) (hl : (s.ports.get p).linkUp = true) :
    s.openPort p = .ok ((s.withPort p { s.ports.get p with
      state := .opened
      hostCredits := (s.ports.get p).hostCredits + ((s.ports.get p).creditLimit - s.storeEntries p)
      pendingCredits := (s.ports.get p).pendingCredits + ((s.ports.get p).creditLimit - s.storeEntries p)
      }).withCause (portGroup p) 0) := by
  rw [State.openPort, h]
  dsimp only
  rw [if_pos hl]
  rfl

/-- A CLOSED port whose link is down waits for it (R107). -/
theorem State.openPort_of_closed_down (h : (s.ports.get p).state = .closed) (hl : (s.ports.get p).linkUp = false) :
    s.openPort p = .ok (s.withPort p { s.ports.get p with state := .waiting }) := by
  rw [State.openPort, h]
  dsimp only
  rw [if_neg (by simp [hl])]
  rfl

/-- In the other states OPEN_PORT is refused (R107). -/
theorem State.openPort_refused
    (h : (s.ports.get p).state = .waiting ∨ (s.ports.get p).state = .opened ∨ (s.ports.get p).state = .closing) :
    s.openPort p = .error .wrongState := by
  rcases h with h | h | h <;> rw [State.openPort, h]

/-- An OPEN port with no tag outstanding closes at once (R108). -/
theorem State.closePort_of_idle (h : (s.ports.get p).state = .opened) (ho : (s.ports.get p).outstanding = []) :
    s.closePort p = .ok ((s.withPort p { s.ports.get p with
      state := .closed, hostCredits := 0, pendingCredits := 0 }).withCause (portGroup p) 1) := by
  rw [State.closePort, h]
  dsimp only
  rw [if_pos (by rw [ho]; rfl)]
  rfl

/-- An OPEN port with tags outstanding begins to close, and its credits that are not yet sent are withdrawn (R108). -/
theorem State.closePort_of_busy (h : (s.ports.get p).state = .opened) (ho : (s.ports.get p).outstanding ≠ []) :
    s.closePort p = .ok (s.withPort p { s.ports.get p with
      state := .closing
      hostCredits := (s.ports.get p).hostCredits - (s.ports.get p).pendingCredits, pendingCredits := 0 }) := by
  rw [State.closePort, h]
  dsimp only
  rw [if_neg (by rwa [List.isEmpty_iff])]
  rfl

/-- A WAITING port is DISABLED, with its link held down (R108). -/
theorem State.closePort_of_waiting (h : (s.ports.get p).state = .waiting) :
    s.closePort p = .ok (s.withPort p { s.ports.get p with
      state := .disabled, linkRequest := .holdDown, retrain := false }) := by
  rw [State.closePort, h]
  rfl

/-- In the other states CLOSE_PORT is refused (R108). -/
theorem State.closePort_refused
    (h : (s.ports.get p).state = .disabled ∨ (s.ports.get p).state = .closing ∨ (s.ports.get p).state = .closed) :
    s.closePort p = .error .wrongState := by
  rcases h with h | h | h <;> rw [State.closePort, h]

/-! ## The two commands as words of a WRITE frame -/

variable {arg : Byte} (hw : s.WritingAt 0x0008)
include hw

theorem exec_openPort_accepted (hp : arg.toNat = p.val) {t : State} (h : s.openPort p = .ok t) (hm : t.mgmt = s.mgmt) :
    exec (.openPort arg) s = .next t :=
  congrArg Host.Outcome.next (s.writeCommand_accepted hw (by rw [onPort_of_lt hp, h]) hm)

theorem exec_openPort_refused (hp : arg.toNat = p.val) {r : Reject} (h : s.openPort p = .error r) :
    exec (.openPort arg) s = .next (s.wordRefused r) :=
  congrArg Host.Outcome.next (s.writeCommand_refused hw (by rw [onPort_of_lt hp, h]))

theorem exec_closePort_accepted (hp : arg.toNat = p.val) {t : State} (h : s.closePort p = .ok t)
    (hm : t.mgmt = s.mgmt) : exec (.closePort arg) s = .next t :=
  congrArg Host.Outcome.next (s.writeCommand_accepted hw (by rw [onPort_of_lt hp, h]) hm)

theorem exec_closePort_refused (hp : arg.toNat = p.val) {r : Reject} (h : s.closePort p = .error r) :
    exec (.closePort arg) s = .next (s.wordRefused r) :=
  congrArg Host.Outcome.next (s.writeCommand_refused hw (by rw [onPort_of_lt hp, h]))

end commands

/-- Settles O15: the two commands are given by the state of the port they name. -/
theorem openAndClosePort : Obligations.OpenAndClosePort := by
  intro arg s hw
  refine ⟨fun h => ?noPort, fun p hp => ⟨fun h => ⟨?opensDisabled, ?closesDisabled⟩, fun h hl => ?opensClosedUp,
    fun h hl => ?opensClosedDown, fun h => ?opensElse, fun h ho => ?closesIdle, fun h ho => ?closesBusy,
    fun h => ?closesWaiting, fun h => ?closesElse⟩⟩
  case noPort =>
    exact ⟨congrArg Host.Outcome.next (s.writeCommand_refused hw (onPort_of_ge h)),
      congrArg Host.Outcome.next (s.writeCommand_refused hw (onPort_of_ge h))⟩
  case opensDisabled => exact exec_openPort_accepted hw hp (State.openPort_of_disabled h) rfl
  case closesDisabled => exact exec_closePort_refused hw hp (State.closePort_refused (.inl h))
  case opensClosedUp => exact exec_openPort_accepted hw hp (State.openPort_of_closed_up h hl) rfl
  case opensClosedDown => exact exec_openPort_accepted hw hp (State.openPort_of_closed_down h hl) rfl
  case opensElse => exact exec_openPort_refused hw hp (State.openPort_refused h)
  case closesIdle => exact exec_closePort_accepted hw hp (State.closePort_of_idle h ho) rfl
  case closesBusy => exact exec_closePort_accepted hw hp (State.closePort_of_busy h ho) rfl
  case closesWaiting => exact exec_closePort_accepted hw hp (State.closePort_of_waiting h) rfl
  case closesElse => exact exec_closePort_refused hw hp (State.closePort_refused (.inr h))

/-! ## The end of a response's send -/

/-- The port after the response `r` at the head of its queue has been sent (R118). -/
theorem PortRec.finishResponse_of_cons {k : PortRec} {r : Response} {rest : List Response} (h : k.queue = r :: rest) :
    k.finishResponse = { k with upTx := .idle, queue := rest, outstanding := k.outstanding.erase r.hostTag } := by
  rw [PortRec.finishResponse, h]

/-- A response is sent, and a CLOSING port that has no tag left outstanding closes (R118). -/
theorem State.responseSent_eq (s : State) (p : Port) :
    s.responseSent p =
      if (s.ports.get p).finishResponse.state = .closing ∧ (s.ports.get p).finishResponse.outstanding = [] then
        (s.withPort p { (s.ports.get p).finishResponse with state := .closed, hostCredits := 0 }).withCause
          (portGroup p) 1
      else s.withPort p (s.ports.get p).finishResponse := by
  simp only [State.responseSent, State.updPort, Table.get_put_self, Table.put_put, Bool.and_eq_true, decide_eq_true_eq,
    List.isEmpty_iff]
  rfl

theorem exec_responseSendEnd {s : State} {p : Port} (hr : s.pins.rstLow = false)
    (ht : (s.ports.get p).upTx = .response) : exec (.responseSendEnd p) s = .next (s.responseSent p) := by
  show execResponseSendEnd p s = _
  simp only [execResponseSendEnd, ht, State.awake, hr, Bool.not_false, if_true]

/-- Settles O32: the end of the send is `State.responseSent`, on a queue that holds the response. -/
theorem responseSendEnds : Obligations.ResponseSendEnds := by
  intro p s r rest hr ht hq k
  rw [exec_responseSendEnd hr ht, State.responseSent_eq, PortRec.finishResponse_of_cons hq]

/-! ## CLOSE_PORT and the last response -/

theorem Cause.bit_lt (k : Cause) : k.bit < 8 := by
  cases k with
  | port p j | cls c j | down j | device j => cases j <;> simp only [Cause.bit] <;> decide

/-- A raised cause is set (R145). -/
theorem State.causeSet_withCause (s : State) (k : Cause) : (s.withCause k.group k.bit).causeSet k = true := by
  simp [State.causeSet, State.withCause, k.bit_lt]

@[simp] theorem State.withPort_port (s : State) (p : Port) (k : PortRec) : (s.withPort p k).ports.get p = k :=
  Table.get_put_self ..

@[simp] theorem State.withPort_withPort (s : State) (p : Port) (j k : PortRec) :
    (s.withPort p j).withPort p k = s.withPort p k := by
  simp only [State.withPort, Table.put_put]

/-- A port that begins to close: the credits that are not yet sent are withdrawn (R108). -/
def PortRec.closingDown (k : PortRec) : PortRec :=
  { k with state := .closing, hostCredits := k.hostCredits - k.pendingCredits, pendingCredits := 0 }

/-- A port whose last response has been sent (R118). -/
def PortRec.answeredAll (k : PortRec) : PortRec := { k with upTx := .idle, queue := [], outstanding := [] }

/-- A port whose last response has been sent and which is CLOSED (R119). -/
def PortRec.drained (k : PortRec) : PortRec :=
  { k.answeredAll with state := .closed, hostCredits := 0, pendingCredits := 0 }

section meeting
variable {s : State} {p : Port} {r : Response} (hq : (s.ports.get p).queue = [r])
  (ho : (s.ports.get p).outstanding = [r.hostTag])
include hq ho

/-- The last response's send ends at an OPEN port, which stays OPEN. -/
theorem State.responseSent_of_opened (h : (s.ports.get p).state = .opened) :
    s.responseSent p = s.withPort p (s.ports.get p).answeredAll := by
  simp [State.responseSent_eq, PortRec.finishResponse_of_cons hq, h, ho, PortRec.answeredAll]

/-- The end of the last response's send closes a port that has begun to close. -/
theorem State.responseSent_of_closingDown :
    (s.withPort p (s.ports.get p).closingDown).responseSent p =
      (s.withPort p (s.ports.get p).drained).withCause (portGroup p) 1 := by
  have finished : (s.ports.get p).closingDown.finishResponse = (s.ports.get p).closingDown.answeredAll := by
    simp [PortRec.finishResponse, PortRec.closingDown, PortRec.answeredAll, hq, ho]
  rw [State.responseSent_eq, State.withPort_port, finished, if_pos ⟨rfl, rfl⟩, State.withPort_withPort]
  rfl

end meeting

/-- Settles O59: in both orders the port is `PortRec.drained`, with CLOSED raised. -/
theorem closeMeetsLastResponse : Obligations.CloseMeetsLastResponse := by
  intro p s r arg hw hp hs ht hq ho
  have ⟨hr, _, _⟩ := hw
  have port : ((s.withPort p (s.ports.get p).drained).withCause (portGroup p) 1).ports.get p =
      (s.ports.get p).drained := s.withPort_port p _
  refine ⟨(s.withPort p (s.ports.get p).drained).withCause (portGroup p) 1,
    ⟨s.withPort p (s.ports.get p).answeredAll, ?responds, ?thenCloses⟩,
    ⟨s.withPort p (s.ports.get p).closingDown, ?closes, ?thenResponds⟩,
    congrArg PortRec.state port, congrArg PortRec.hostCredits port, congrArg PortRec.outstanding port,
    congrArg PortRec.queue port, State.causeSet_withCause _ (.port p .closed)⟩
  case responds => rw [exec_responseSendEnd hr ht, State.responseSent_of_opened hq ho hs]
  case thenCloses =>
    have idle := State.closePort_of_idle (s := s.withPort p (s.ports.get p).answeredAll) (p := p)
      (by rw [State.withPort_port]; exact hs) (by rw [State.withPort_port]; rfl)
    rw [State.withPort_port, State.withPort_withPort] at idle
    exact exec_closePort_accepted (s := s.withPort p _) hw hp idle rfl
  case closes =>
    exact exec_closePort_accepted hw hp (State.closePort_of_busy hs (by rw [ho]; exact List.cons_ne_nil _ _)) rfl
  case thenResponds =>
    have sending : ((s.withPort p (s.ports.get p).closingDown).ports.get p).upTx = .response := by
      rw [State.withPort_port]
      exact ht
    rw [exec_responseSendEnd (s := s.withPort p _) hr sending, State.responseSent_of_closingDown hq ho]

/-! ## Credit limits (R114) -/

section limits
variable {s : State} {p : Port} {w : Word}

/-- The sum of the other ports' limits, in the words of the statement. -/
theorem State.otherLimits_eq (s : State) (p : Port) :
    s.otherLimits p = ((List.finRange 4).map fun q => if q = p then 0 else (s.ports.get q).creditLimit).sum := by
  rw [List.sum_map_ite]
  simp [State.otherLimits]

/-- A number outside 1 to 64 (R114). -/
theorem ownCreditLimit_of_range (h : w.toNat = 0 ∨ 64 < w.toNat) : ownCreditLimit p w s = .error .badValue :=
  if_pos h

/-- A limit for a port that is OPEN or CLOSING (R114). -/
theorem ownCreditLimit_of_serving (low : 1 ≤ w.toNat) (high : w.toNat ≤ 64)
    (h : (s.ports.get p).state.serving = true) : ownCreditLimit p w s = .error .wrongState := by
  rw [ownCreditLimit, Config.maxCreditLimit, if_neg (by omega), if_pos h]

/-- A limit that a port may have, by the sum of all (R114). -/
theorem ownCreditLimit_of_shut (low : 1 ≤ w.toNat) (high : w.toNat ≤ 64)
    (h : ¬(s.ports.get p).state.serving = true) :
    ownCreditLimit p w s = if 128 < w.toNat + s.otherLimits p then .error .badValue
      else .ok (s.withPort p { s.ports.get p with creditLimit := w.toNat }) := by
  rw [ownCreditLimit, Config.maxCreditLimit, if_neg (by omega), if_neg h]
  rfl

end limits

/-- Settles O12: the three checks in their order. -/
theorem creditLimitWrites : Obligations.CreditLimitWrites := by
  intro p w s hw serves others
  have serving : (s.ports.get p).state.serving = true ↔ serves := PortState.serving_iff _
  have sum : s.otherLimits p = others := s.otherLimits_eq p
  have refused : ∀ {r}, ownCreditLimit p w s = .error r →
      exec (.creditLimitWrite p w) s = .next (s.wordRefused r).wordPassed := fun h =>
    congrArg Host.Outcome.next (s.writeWord_refused (w := .creditLimit p) hw nofun h)
  refine ⟨fun h => refused (ownCreditLimit_of_range h),
    fun low high h => refused (ownCreditLimit_of_serving low high (serving.mpr h)),
    fun low high h hs => refused ?above, fun low high h hs => ?accepted⟩
  case above => rw [ownCreditLimit_of_shut low high (mt serving.mp h), sum, if_pos hs]
  case accepted =>
    refine congrArg Host.Outcome.next (s.writeWord_accepted (w := .creditLimit p) hw nofun ?_ rfl)
    rw [ownCreditLimit_of_shut low high (mt serving.mp h), sum, if_neg (by omega)]

end Sys2Proof.Machine


/-! # The laws of the host ports (R106, R112, R114, R115)

The two laws are one condition on each port, given the host tags of its HELD and IN_FLIGHT requests and how many of its
entries are ISSUING, and the sum of the credit limits.  A command either leaves a port's part of this alone, or
moves tags from one place to another and returns the credits of the store entries that it frees. -/

namespace Sys2Proof.Machine

/-! ## The law of one port -/

/-- The credit accounting (R112) and the answers (R115) of a port whose HELD and IN_FLIGHT requests have the host tags
`held` and `flight`, and of whose entries `issuing` are ISSUING. -/
structure PortRec.Sound (k : PortRec) (held flight : List HostTag) (issuing : Nat) : Prop where
  limit : 1 ≤ k.creditLimit ∧ k.creditLimit ≤ 64
  pending : k.pendingCredits ≤ k.hostCredits
  sending : k.upTx ≠ .idle → k.linkUp = true
  response : k.upTx = .response → k.queue ≠ []
  opened : k.state = .opened → k.linkUp = true ∧ k.hostCredits + (held.length + issuing) = k.creditLimit
  closing : k.state = .closing → k.linkUp = true ∧ k.pendingCredits = 0
    ∧ k.hostCredits + (held.length + issuing) ≤ k.creditLimit
  shut : k.state.serving = false → k.hostCredits = 0 ∧ k.outstanding = []
  down : k.state = .disabled ∨ k.state = .waiting → k.linkUp = false
  nodup : k.outstanding.Nodup
  answers : (held ++ flight ++ k.queue.map Response.hostTag).Perm k.outstanding

/-- Port `p` has the law in the state `s`. -/
def State.PortSound (s : State) (p : Port) : Prop :=
  (s.ports.get p).Sound (s.heldTags p) (s.flightTags p) (s.issuingOf p)

/-- Every port has the law, and the credit limits sum to at most 128 (R114). -/
structure State.PortsSound (s : State) : Prop where
  ports : ∀ p, s.PortSound p
  limits : ((List.finRange 4).map fun p => (s.ports.get p).creditLimit).sum ≤ 128

/-- The store entries of a port, HELD and ISSUING (R1, R106). -/
theorem State.storeEntries_eq (s : State) (p : Port) : s.storeEntries p = (s.heldTags p).length + s.issuingOf p := by
  simp only [State.storeEntries, State.heldTags, State.issuingOf, List.length_map]

/-- At most one entry of the store is ISSUING (R3). -/
theorem State.issuingOf_le (s : State) (p : Port) : s.issuingOf p ≤ 1 :=
  (List.length_filter_le ..).trans (by cases s.issuing <;> simp)

section empty
variable {k : PortRec} {held flight : List HostTag} {issuing : Nat}

/-- A port with no outstanding tag has no request HELD or IN_FLIGHT and no answer queued (R115). -/
theorem PortRec.Sound.empty (h : k.Sound held flight issuing) (ho : k.outstanding = []) :
    held = [] ∧ flight = [] ∧ k.queue = [] := by
  have hnil := (ho ▸ h.answers).eq_nil
  simpa [and_assoc] using hnil

/-- A port that serves no host has nothing HELD. -/
theorem PortRec.Sound.held_of_shut (h : k.Sound held flight issuing) (hs : k.state.serving = false) : held = [] :=
  (h.empty (h.shut hs).2).1

end empty

theorem State.portSound_of_laws {s : State} (hc : s.CreditLaw) (ha : s.AnswerLaw) (p : Port) : s.PortSound p := by
  obtain ⟨limit, pending, sending, response, hstate⟩ := hc.1 p
  obtain ⟨nodup, answers⟩ := ha p
  rw [s.storeEntries_eq] at hstate
  refine ⟨limit, pending, sending, response, fun h => ?_, fun h => ?_, fun h => ?_, fun h => ?_, nodup, answers⟩
  · rw [h] at hstate
    exact hstate
  · rw [h] at hstate
    exact hstate
  · split at hstate
    · next hs => rw [hs] at h; cases h
    · next hs => rw [hs] at h; cases h
    · obtain ⟨host, outstanding, -⟩ := hstate
      exact ⟨host, outstanding⟩
    · obtain ⟨-, host, outstanding, -⟩ := hstate
      exact ⟨host, outstanding⟩
  · rcases h with h | h <;>
    · rw [h] at hstate
      obtain ⟨link, -⟩ := hstate
      exact link

theorem State.PortsSound.creditLaw {s : State} (hs : s.PortsSound) : s.CreditLaw := by
  refine ⟨fun p => ?_, hs.limits⟩
  have h := hs.ports p
  have shut : (s.ports.get p).state.serving = false →
      (s.ports.get p).hostCredits = 0 ∧ (s.ports.get p).outstanding = [] ∧ s.storeEntries p ≤ 1 := fun hserve => by
    obtain ⟨host, outstanding⟩ := h.shut hserve
    refine ⟨host, outstanding, ?_⟩
    rw [s.storeEntries_eq, h.held_of_shut hserve, List.length_nil, Nat.zero_add]
    exact s.issuingOf_le p
  refine ⟨h.limit, h.pending, h.sending, h.response, ?_⟩
  split
  · next hp => rw [s.storeEntries_eq]; exact h.opened hp
  · next hp => rw [s.storeEntries_eq]; exact h.closing hp
  · next hp => exact shut (by rw [hp]; rfl)
  · next ho hcl hcd =>
    cases hp : (s.ports.get p).state with
    | opened => exact absurd hp ho
    | closing => exact absurd hp hcl
    | closed => exact absurd hp hcd
    | disabled => exact ⟨h.down (.inl hp), shut (by rw [hp]; rfl)⟩
    | waiting => exact ⟨h.down (.inr hp), shut (by rw [hp]; rfl)⟩

/-- The law of every port and the sum of the limits are the two laws. -/
theorem State.portsSound_iff (s : State) : s.PortsSound ↔ s.CreditLaw ∧ s.AnswerLaw :=
  ⟨fun h => ⟨h.creditLaw, fun p => ⟨(h.ports p).nodup, (h.ports p).answers⟩⟩,
    fun ⟨hc, ha⟩ => ⟨State.portSound_of_laws hc ha, hc.2⟩⟩

/-! ## What the operations of a port make of its law -/

namespace PortRec.Sound
variable {k : PortRec} {held flight : List HostTag} {issuing : Nat}

/-- Tags move from the store and the table to the response queue or from the store to the table, and the `n` store
entries that are freed give their credits back (R12, R113, R115). -/
theorem moved (h : k.Sound held flight issuing) {held' flight' : List HostTag} {issuing' n : Nat}
    {answers : List Response} (hn : held'.length + issuing' + n = held.length + issuing)
    (hp : (held' ++ flight' ++ answers.map Response.hostTag).Perm (held ++ flight)) :
    (({ k with queue := k.queue ++ answers } : PortRec).given n).Sound held' flight' issuing' := by
  have hq : (held' ++ flight' ++ (k.queue ++ answers).map Response.hostTag).Perm k.outstanding := by
    rw [List.map_append]
    calc held' ++ flight' ++ (k.queue.map Response.hostTag ++ answers.map Response.hostTag)
      _ |>.Perm (held' ++ flight' ++ (answers.map Response.hostTag ++ k.queue.map Response.hostTag)) :=
        List.perm_append_comm.append_left _
      _ |>.Perm (held ++ flight ++ k.queue.map Response.hostTag) := by
        rw [← List.append_assoc]
        exact hp.append_right _
      _ |>.Perm k.outstanding := h.answers
  have hr : k.upTx = .response → k.queue ++ answers ≠ [] := fun ht =>
    List.append_ne_nil_of_left_ne_nil (h.response ht) answers
  have hpending := h.pending
  unfold PortRec.given
  split
  · next ho =>
    obtain ⟨link, credits⟩ := h.opened ho
    exact { h with
      pending := Nat.add_le_add_right hpending n
      response := hr
      opened := fun _ => ⟨link, by dsimp only; omega⟩
      closing := fun hc => nomatch ho.symm.trans hc
      shut := fun hs => by rw [show k.state = .opened from ho] at hs; cases hs
      answers := hq }
  · next ho =>
    exact { h with
      response := hr
      opened := fun h => absurd h ho
      closing := fun hc => by
        obtain ⟨link, pending, credits⟩ := h.closing hc
        exact ⟨link, pending, by dsimp only; omega⟩
      answers := hq }

/-- Answers join the queue, and nothing is freed in the store (R117). -/
theorem answered (h : k.Sound held flight issuing) {flight' : List HostTag} {answers : List Response}
    (hp : (flight' ++ answers.map Response.hostTag).Perm flight) :
    ({ k with queue := k.queue ++ answers } : PortRec).Sound held flight' issuing := by
  have hm := h.moved (held' := held) (flight' := flight') (issuing' := issuing) (n := 0) (answers := answers) rfl
    (by rw [List.append_assoc]; exact hp.append_left held)
  simpa [PortRec.given] using hm

/-- Requests move from the store to the table, and nothing is freed in the store (R11, R130). -/
theorem issued (h : k.Sound held flight issuing) {held' flight' : List HostTag} {issuing' : Nat}
    (hn : held'.length + issuing' = held.length + issuing) (hp : (held' ++ flight').Perm (held ++ flight)) :
    k.Sound held' flight' issuing' := by
  have hm := h.moved (answers := []) (n := 0) hn (by simpa using hp)
  simpa [PortRec.given] using hm

/-- A packet that passes step 1 of its arrival takes a credit, and its tag waits for an answer (R74). -/
theorem admitTag (h : k.Sound held flight issuing) {tag : HostTag} (hc : k.pendingCredits < k.hostCredits)
    (ht : tag ∉ k.outstanding) : (k.admitTag tag).Sound (held ++ [tag]) flight issuing := by
  have hlen : (held ++ [tag]).length = held.length + 1 := List.length_append
  unfold PortRec.admitTag
  exact { h with
    pending := Nat.le_sub_one_of_lt hc
    opened := fun ho => by
      obtain ⟨link, credits⟩ := h.opened ho
      exact ⟨link, by dsimp only; omega⟩
    closing := fun hcl => by
      obtain ⟨link, pending, credits⟩ := h.closing hcl
      exact ⟨link, pending, by dsimp only; omega⟩
    shut := fun hs => absurd (h.shut hs).1 (Nat.ne_zero_of_lt hc)
    nodup := (List.perm_append_singleton tag _).nodup_iff.mpr (List.nodup_cons.mpr ⟨ht, h.nodup⟩)
    answers := by
      rw [List.append_assoc, List.append_assoc]
      calc held ++ ([tag] ++ (flight ++ k.queue.map Response.hostTag))
        _ |>.Perm (tag :: (held ++ (flight ++ k.queue.map Response.hostTag))) := List.perm_middle
        _ |>.Perm (tag :: k.outstanding) := (List.append_assoc .. ▸ h.answers).cons tag
        _ |>.Perm (k.outstanding ++ [tag]) := (List.perm_append_singleton ..).symm }

/-- A refusal is an answer at once, and gives the credit back while the port is OPEN (R101). -/
theorem refused (h : k.Sound held flight issuing) {tag : HostTag} (hc : k.pendingCredits < k.hostCredits)
    (ht : tag ∉ k.outstanding) (reason : RefusalReason) :
    ((k.admitTag tag).refused tag reason).Sound held flight issuing := by
  have admitted := h.admitTag hc ht
  have accounted : ({ k.admitTag tag with
      requestsRefused := counted (k.admitTag tag).requestsRefused 1 } : PortRec).Sound (held ++ [tag]) flight issuing :=
    { admitted with }
  refine accounted.moved (answers := [⟨tag, .refused reason⟩]) ?_ ?_
  · rw [List.length_append, List.length_singleton]
    omega
  · rw [List.append_assoc, List.append_assoc]
    exact List.perm_append_comm.append_left held

/-- A port that serves no host enters OPEN: it has its credit limit less its store entries (R113). -/
theorem opens (h : k.Sound held flight issuing) (hs : k.state.serving = false) (hi : issuing ≤ 1) (r : Bool) :
    ({ k with
      linkUp := true, retrain := r, state := .opened
      hostCredits := k.hostCredits + (k.creditLimit - (held.length + issuing))
      pendingCredits := k.pendingCredits + (k.creditLimit - (held.length + issuing)) } : PortRec).Sound
      held flight issuing := by
  obtain ⟨hostCredits, -⟩ := h.shut hs
  have hheld : held.length = 0 := by rw [h.held_of_shut hs]; rfl
  have ⟨hlimit, _⟩ := h.limit
  exact { h with
    pending := Nat.add_le_add_right h.pending _
    sending := fun _ => rfl
    opened := fun _ => ⟨rfl, by dsimp only; omega⟩
    closing := nofun
    shut := nofun
    down := nofun }

/-- A port with no tag outstanding closes: its credits are withdrawn (R108, R118). -/
theorem closes (h : k.Sound held flight issuing) (ho : k.outstanding = []) {n : Nat} (hn : n = 0) :
    ({ k with state := .closed, hostCredits := 0, pendingCredits := n } : PortRec).Sound held flight issuing :=
  { h with
    pending := hn.le
    opened := nofun
    closing := nofun
    shut := fun _ => ⟨rfl, ho⟩
    down := nofun }

/-- An OPEN port with tags outstanding begins to close: the credits that are not yet sent are withdrawn (R108). -/
theorem beginsToClose (h : k.Sound held flight issuing) (ho : k.state = .opened) :
    ({ k with
      state := .closing, hostCredits := k.hostCredits - k.pendingCredits, pendingCredits := 0 } : PortRec).Sound
      held flight issuing := by
  obtain ⟨link, credits⟩ := h.opened ho
  exact { h with
    pending := Nat.zero_le _
    opened := nofun
    closing := fun _ => ⟨link, rfl, by dsimp only; omega⟩
    shut := nofun
    down := nofun }

/-- A port that serves no host and has its link down may stand in any such state (R107, R108). -/
theorem rests (h : k.Sound held flight issuing) (hs : k.state.serving = false) (hl : k.linkUp = false) {st : PortState}
    (hst : st.serving = false) (q : LinkRequest) (r : Bool) :
    ({ k with state := st, linkRequest := q, retrain := r } : PortRec).Sound held flight issuing :=
  { h with
    opened := fun ho => by subst ho; cases hst
    closing := fun hc => by subst hc; cases hst
    shut := fun _ => h.shut hs
    down := fun _ => hl }

/-- A CLOSED port comes up (R110). -/
theorem linksUp (h : k.Sound held flight issuing) (hs : k.state = .closed) (r : Bool) :
    ({ k with linkUp := true, retrain := r } : PortRec).Sound held flight issuing :=
  { h with
    sending := fun _ => rfl
    opened := fun ho => nomatch hs.symm.trans ho
    closing := fun hc => nomatch hs.symm.trans hc
    down := fun hd => by rcases hd with hd | hd <;> exact nomatch hs.symm.trans hd }

/-- A port that is cut off has nothing left but an entry that is ISSUING (R109, R111). -/
theorem cut (h : k.Sound held flight issuing) {st : PortState} (hst : st.serving = false) (r : Bool) :
    ({ k.cut with linkUp := false, retrain := r, state := st } : PortRec).Sound [] [] issuing where
  limit := h.limit
  pending := Nat.zero_le _
  sending h := absurd rfl h
  response := nofun
  opened ho := by subst ho; cases hst
  closing hc := by subst hc; cases hst
  shut _ := ⟨rfl, rfl⟩
  down _ := rfl
  nodup := List.nodup_nil
  answers := .refl _

/-- A send begins while the link is up; a response is sent from a queue that holds one (R77). -/
theorem beginSend (h : k.Sound held flight issuing) (hl : k.linkUp = true) :
    k.beginSend.Sound held flight issuing := by
  unfold PortRec.beginSend
  split
  · exact { h with
      pending := Nat.zero_le _
      sending := fun _ => hl
      response := nofun
      closing := fun hc => by
        obtain ⟨link, -, credits⟩ := h.closing hc
        exact ⟨link, rfl, credits⟩ }
  · split
    · exact h
    · next hq => exact { h with sending := fun _ => hl, response := fun _ => by simpa using hq }

/-- A send ends. -/
theorem endsSend (h : k.Sound held flight issuing) : ({ k with upTx := .idle } : PortRec).Sound held flight issuing :=
  { h with sending := fun hi => absurd rfl hi, response := nofun }

/-- The response at the head of the queue is sent, and its tag is outstanding no more (R118). -/
theorem finishResponse (h : k.Sound held flight issuing) : k.finishResponse.Sound held flight issuing := by
  unfold PortRec.finishResponse
  split
  · exact h.endsSend
  · next r rest hq =>
    have hp : (held ++ flight ++ (r :: rest).map Response.hostTag).Perm k.outstanding := hq ▸ h.answers
    exact { h.endsSend with
      response := nofun
      shut := fun hs => by
        obtain ⟨host, outstanding⟩ := h.shut hs
        exact ⟨host, by rw [outstanding]; rfl⟩
      nodup := h.nodup.erase _
      answers := by simpa using (List.perm_middle.symm.trans hp).erase r.hostTag }

end PortRec.Sound

/-! ## What a command leaves of a port's requests -/

/-- A change after which port `p` still has the law, if it had it, and its credit limit (R112, R114, R115). -/
structure PortKept (s t : State) (p : Port) : Prop where
  limit : (t.ports.get p).creditLimit = (s.ports.get p).creditLimit
  sound : s.PortSound p → t.PortSound p

/-- Every port keeps its law and its credit limit. -/
def PortsKept (s t : State) : Prop := ∀ p, PortKept s t p

theorem PortsKept.trans {s t u : State} (h : PortsKept s t) (g : PortsKept t u) : PortsKept s u := fun p =>
  ⟨(g p).limit.trans (h p).limit, (g p).sound ∘ (h p).sound⟩

theorem State.PortsSound.of_kept {s t : State} (h : s.PortsSound) (g : PortsKept s t) : t.PortsSound where
  ports p := (g p).sound (h.ports p)
  limits := by simpa only [fun p => (g p).limit] using h.limits

theorem State.heldTags_congr {s t : State} (h : t.held = s.held) (p : Port) : t.heldTags p = s.heldTags p := by
  rw [State.heldTags, h, State.heldTags]

theorem State.issuingOf_congr {s t : State} (h : t.issuing = s.issuing) (p : Port) : t.issuingOf p = s.issuingOf p := by
  rw [State.issuingOf, h, State.issuingOf]

/-- A port whose record stands keeps its law where its requests move at most from one downstream tag to another, or from
the store to the table. -/
theorem PortKept.of_requests {s t : State} {p : Port} (hp : t.ports.get p = s.ports.get p)
    (hn : (t.heldTags p).length + t.issuingOf p = (s.heldTags p).length + s.issuingOf p)
    (hr : (t.heldTags p ++ t.flightTags p).Perm (s.heldTags p ++ s.flightTags p)) : PortKept s t p :=
  ⟨by rw [hp], fun h => by rw [State.PortSound, hp]; exact h.issued hn hr⟩

/-- The HELD entries, the ISSUING one and the IN_FLIGHT records stand. -/
structure RequestsKept (s t : State) : Prop where
  held : t.held = s.held
  issuing : t.issuing = s.issuing
  flights : t.mem.inFlightRecords = s.mem.inFlightRecords

theorem Untouched.requestsKept {s t : State} (h : Untouched s t) : RequestsKept s t :=
  ⟨h.held, h.issuing, by simp only [MemPort.inFlightRecords, h.table]⟩

section requests
variable {s t : State}

theorem RequestsKept.heldTags (h : RequestsKept s t) (p : Port) : t.heldTags p = s.heldTags p :=
  State.heldTags_congr h.held p

theorem RequestsKept.flightTags (h : RequestsKept s t) (p : Port) : t.flightTags p = s.flightTags p := by
  rw [State.flightTags, h.flights, State.flightTags]

theorem RequestsKept.issuingOf (h : RequestsKept s t) (p : Port) : t.issuingOf p = s.issuingOf p :=
  State.issuingOf_congr h.issuing p

/-- An effect outside the ports, the store and the table. -/
theorem RequestsKept.portsKept (h : RequestsKept s t) (hp : t.ports = s.ports) : PortsKept s t := fun p =>
  .of_requests (by rw [hp]) (by rw [h.heldTags, h.issuingOf]) (by rw [h.heldTags, h.flightTags])

theorem Untouched.portsKept (h : Untouched s t) (hp : t.ports = s.ports) : PortsKept s t := h.requestsKept.portsKept hp

/-- An effect on one port alone, which keeps that port's law and its credit limit. -/
theorem RequestsKept.put (h : RequestsKept s t) {p : Port} {k : PortRec} (hp : t.ports = s.ports.put p k)
    (hl : k.creditLimit = (s.ports.get p).creditLimit)
    (hk : s.PortSound p → k.Sound (s.heldTags p) (s.flightTags p) (s.issuingOf p)) : PortsKept s t := fun q => by
  by_cases hq : p = q
  · subst hq
    have self : t.ports.get p = k := by rw [hp, Table.get_put_self]
    refine ⟨by rw [self, hl], fun hs => ?_⟩
    rw [State.PortSound, self, h.heldTags, h.flightTags, h.issuingOf]
    exact hk hs
  · exact .of_requests (by rw [hp, Table.get_put_of_ne _ _ hq]) (by rw [h.heldTags, h.issuingOf])
      (by rw [h.heldTags, h.flightTags])

/-- An update of one port that keeps its law and its credit limit. -/
theorem PortsKept.updPort {p : Port} {f : PortRec → PortRec}
    (hl : (f (s.ports.get p)).creditLimit = (s.ports.get p).creditLimit)
    (hk : s.PortSound p → (f (s.ports.get p)).Sound (s.heldTags p) (s.flightTags p) (s.issuingOf p)) :
    PortsKept s (s.updPort p f) :=
  (s.updPort_untouched p f).requestsKept.put rfl hl hk

end requests

/-! ## The IN_FLIGHT requests (R129) -/

/-- The record of an IN_FLIGHT entry. -/
def InFlight.flight : InFlight → Option FlightRecord
  | .inFlight r _ => some r
  | _ => none

theorem MemPort.inFlightRecords_eq (m : MemPort) :
    m.inFlightRecords = (List.finRange 64).filterMap fun d => (m.table.get d).flight := by
  refine List.filterMap_congr fun d _ => ?_
  cases m.table.get d <;> rfl

/-- The IN_FLIGHT records are those of one tag and those of the others. -/
theorem MemPort.inFlightRecords_perm (m : MemPort) (d : DTag) :
    ∃ others, ∀ n : MemPort, (∀ x, x ≠ d → n.table.get x = m.table.get x) →
      n.inFlightRecords.Perm ((n.table.get d).flight.toList ++ others) := by
  obtain ⟨before, after, hl⟩ := List.append_of_mem (List.mem_finRange d)
  have hd : d ∉ before ++ after := (List.nodup_cons.mp (List.nodup_middle.mp (hl ▸ List.nodup_finRange 64))).1
  refine ⟨(before ++ after).filterMap fun x => (m.table.get x).flight, fun n hn => ?_⟩
  have others : ((before ++ after).filterMap fun x => (m.table.get x).flight) =
      (before ++ after).filterMap fun x => (n.table.get x).flight :=
    List.filterMap_congr fun x hx => by rw [hn x fun h => hd (h ▸ hx)]
  rw [others, n.inFlightRecords_eq, hl]
  refine (List.perm_middle.filterMap _).trans (.of_eq ?_)
  rw [List.filterMap_cons]
  cases (n.table.get d).flight <;> rfl

/-- The host tags of port `p` that an in-flight entry has waiting for the memory. -/
def InFlight.tagsOf (x : InFlight) (p : Port) : List HostTag :=
  (x.flight.toList.filter (·.port = p)).map FlightRecord.hostTag

/-- The host tags that wait for the memory are those of one downstream tag and those of the others. -/
theorem State.flightTags_perm (s : State) (d : DTag) (p : Port) :
    ∃ others, ∀ t : State, (∀ x, x ≠ d → t.mem.table.get x = s.mem.table.get x) →
      (t.flightTags p).Perm ((t.mem.table.get d).tagsOf p ++ others) := by
  obtain ⟨others, h⟩ := s.mem.inFlightRecords_perm d
  refine ⟨(others.filter (·.port = p)).map FlightRecord.hostTag, fun t ht => ?_⟩
  have hp := ((h t.mem ht).filter fun r : FlightRecord => r.port = p).map FlightRecord.hostTag
  rwa [List.filter_append, List.map_append] at hp

/-- Where the entry of one downstream tag changes, the host tags of the two entries change places. -/
theorem State.flightTags_put {s t : State} {d : DTag} {x : InFlight} (ht : t.mem.table = s.mem.table.put d x)
    (p : Port) : (t.flightTags p ++ (s.mem.table.get d).tagsOf p).Perm (x.tagsOf p ++ s.flightTags p) := by
  obtain ⟨others, h⟩ := s.flightTags_perm d p
  have hs := h s fun _ _ => rfl
  have hx := h t fun y hy => by rw [ht, Table.get_put_of_ne _ _ hy.symm]
  rw [ht, Table.get_put_self] at hx
  calc t.flightTags p ++ (s.mem.table.get d).tagsOf p
    _ |>.Perm (x.tagsOf p ++ others ++ (s.mem.table.get d).tagsOf p) := hx.append_right _
    _ |>.Perm (x.tagsOf p ++ ((s.mem.table.get d).tagsOf p ++ others)) := by
      rw [List.append_assoc]
      exact List.perm_append_comm.append_left _
    _ |>.Perm (x.tagsOf p ++ s.flightTags p) := hs.symm.append_left _

/-- An entry that is not IN_FLIGHT gives its place to another that is not. -/
theorem State.flightTags_put_none {s t : State} {d : DTag} {x : InFlight} (ht : t.mem.table = s.mem.table.put d x)
    (hs : (s.mem.table.get d).flight = none) (hx : x.flight = none) (p : Port) :
    (t.flightTags p).Perm (s.flightTags p) := by
  simpa [InFlight.tagsOf, hs, hx] using State.flightTags_put ht p

/-- The IN_FLIGHT requests of a cleared table: none. -/
theorem MemPort.inFlightRecords_of_free {m : MemPort} (h : ∀ d, m.table.get d = .free) : m.inFlightRecords = [] := by
  rw [m.inFlightRecords_eq, List.filterMap_eq_nil_iff]
  intro d _
  rw [h d]
  rfl

/-! ## Host ports -/

section host
variable {s : State} {p : Port}

/-- A discarded packet leaves its port as it is, but for the count (R74). -/
theorem State.discardPacket_portsKept (s : State) (p : Port) : PortsKept s (s.discardPacket p) :=
  RequestsKept.put ⟨rfl, rfl, rfl⟩ rfl rfl fun h => { h with }

theorem PortRec.given_creditLimit (k : PortRec) (n : Nat) : (k.given n).creditLimit = k.creditLimit := by
  unfold PortRec.given
  split <;> rfl

/-- A refused request is answered at once (R101). -/
theorem State.refuseRequest_portsKept {k : HostPacket} {kind : ReqKind} (hk : s.Admits p k kind)
    (reason : RefusalReason) (cls : Option ClassId) :
    PortsKept s ((s.updPort p (·.admitTag k.hostTag)).refuseRequest p k.hostTag reason cls) := by
  obtain ⟨hc, -, ht⟩ := hk
  rw [State.refuseRequest_eq, State.updPort_ports, Table.get_put_self, Table.put_put]
  exact RequestsKept.put ⟨rfl, rfl, rfl⟩ rfl (PortRec.given_creditLimit ..) fun h => h.refused hc ht reason

/-- A taken request is HELD, and its tag waits for an answer (R102). -/
theorem State.takeRequest_portsKept {e : StoreEntry} (hc : (s.ports.get e.port).pendingCredits <
    (s.ports.get e.port).hostCredits) (ht : e.hostTag ∉ (s.ports.get e.port).outstanding) :
    PortsKept s ((s.updPort e.port (·.admitTag e.hostTag)).takeRequest e) := fun q => by
  rw [State.takeRequest_eq, State.updPort_ports, Table.get_put_self, Table.put_put]
  by_cases hq : e.port = q
  · subst hq
    refine ⟨by simp only [Table.get_put_self]; rfl, fun h => ?_⟩
    have admitted := h.admitTag hc ht
    simp only [State.PortSound, Table.get_put_self, State.heldTags, List.filter_append, List.map_append]
    simpa using { admitted with }
  · refine .of_requests (Table.get_put_of_ne _ _ hq) ?_ ?_ <;> simp [State.heldTags, hq] <;> rfl

theorem State.portLinkUp_portsKept (s : State) (p : Port) : PortsKept s (s.portLinkUp p) := by
  cases hs : (s.ports.get p).state with
  | waiting =>
    rw [State.portLinkUp_of_waiting hs, s.storeEntries_eq]
    exact RequestsKept.put ⟨rfl, rfl, rfl⟩ rfl rfl fun h => h.opens (by rw [hs]; rfl) (s.issuingOf_le p) false
  | closed =>
    rw [State.portLinkUp_of_closed hs]
    exact RequestsKept.put ⟨rfl, rfl, rfl⟩ rfl rfl fun h => h.linksUp hs false
  | disabled | opened | closing =>
    rw [State.portLinkUp, hs]
    exact (Untouched.refl s).portsKept rfl

/-- A cut takes the port's requests from the memory (R137). -/
theorem CutFrom.inFlightRecords {t : State} (h : CutFrom s t p) :
    t.mem.inFlightRecords = s.mem.inFlightRecords.filter (·.port ≠ p) := by
  obtain ⟨-, -, table, -⟩ := h
  rw [MemPort.inFlightRecords_eq, MemPort.inFlightRecords_eq, List.filter_filterMap]
  congr 1
  funext d
  rw [table d]
  cases s.mem.table.get d with
  | inFlight r left => by_cases hr : r.port = p <;> simp [InFlight.flight, Option.filter_some, hr]
  | _ => rfl

/-- Entries of port `q` among those that are not of port `p`. -/
theorem filter_ne_filter {α : Type} (l : List α) (port : α → Port) (p q : Port) :
    (l.filter (port · ≠ p)).filter (port · = q) = if p = q then [] else l.filter (port · = q) := by
  rw [List.filter_filter]
  split
  · next h => subst h; simp
  · next h =>
    refine List.filter_congr fun x _ => ?_
    by_cases hx : port x = q <;> simp [hx, Ne.symm h]

/-- A port that is cut off, and left with its link down in a state in which it serves no host (R109, R111). -/
theorem CutFrom.portsKept {t : State} (h : CutFrom s t p) (hi : t.issuing = s.issuing) {st : PortState} {r : Bool}
    (hst : st.serving = false)
    (hp : t.ports.get p = { (s.ports.get p).cut with linkUp := false, retrain := r, state := st }) :
    PortsKept s t := fun q => by
  have flights := h.inFlightRecords
  obtain ⟨held, -, -, -, ports⟩ := h
  have issuing := State.issuingOf_congr hi q
  have heldTags : t.heldTags q = if p = q then [] else s.heldTags q := by
    rw [State.heldTags, held, filter_ne_filter _ StoreEntry.port]
    split <;> rfl
  have flightTags : t.flightTags q = if p = q then [] else s.flightTags q := by
    rw [State.flightTags, flights, filter_ne_filter _ FlightRecord.port]
    split <;> rfl
  by_cases hq : p = q
  · subst hq
    rw [if_pos rfl] at heldTags flightTags
    refine ⟨by rw [hp]; rfl, fun hs => ?_⟩
    rw [State.PortSound, hp, heldTags, flightTags, issuing]
    exact hs.cut hst r
  · rw [if_neg hq] at heldTags flightTags
    exact .of_requests (ports q (Ne.symm hq)) (by rw [heldTags, issuing]) (by rw [heldTags, flightTags])

/-- A port whose link is lost or that is reset serves no host (R109, R111). -/
theorem PortState.cut_serving (st : PortState) :
    (if st = .opened then .waiting else if st = .closing then .closed else st : PortState).serving = false := by
  cases st <;> rfl

theorem State.portLinkLost_portsKept (s : State) (p : Port) : PortsKept s (s.portLinkLost p) :=
  (s.portLinkLost_cutFrom p).portsKept (State.portLinkLost_untouched s p).issuing (PortState.cut_serving _)
    ((s.portLinkLost_port p).trans (s.portLost_self p))

theorem State.portReset_portsKept (s : State) (p : Port) : PortsKept s (s.portReset p) :=
  (s.portReset_cutFrom p).portsKept rfl (PortState.cut_serving _) (s.portReset_self p)

theorem State.upstreamSendBegin_portsKept (hl : (s.ports.get p).linkUp = true) :
    PortsKept s (s.updPort p PortRec.beginSend) := by
  refine .updPort ?_ fun h => h.beginSend hl
  unfold PortRec.beginSend
  split
  · rfl
  · split <;> rfl

theorem PortRec.finishResponse_creditLimit (k : PortRec) : k.finishResponse.creditLimit = k.creditLimit := by
  unfold PortRec.finishResponse
  split <;> rfl

/-- The end of a response's send: a CLOSING port that has no tag left outstanding closes (R118). -/
theorem State.responseSent_portsKept (s : State) (p : Port) : PortsKept s (s.responseSent p) := by
  have sent : PortsKept s (s.updPort p PortRec.finishResponse) :=
    .updPort (PortRec.finishResponse_creditLimit _) fun h => h.finishResponse
  unfold State.responseSent
  dsimp only
  split
  · next hd =>
    simp only [Bool.and_eq_true, decide_eq_true_eq, List.isEmpty_iff] at hd
    obtain ⟨hc, ho⟩ := hd
    refine sent.trans (RequestsKept.put ⟨rfl, rfl, rfl⟩ rfl rfl fun h => ?_)
    obtain ⟨-, pending, -⟩ := h.closing hc
    exact h.closes ho pending
  · exact sent

end host

/-! ## Effects elsewhere -/

section elsewhere
variable {s t u : State}

theorem PortsKept.of_eq (hh : t.held = s.held) (hi : t.issuing = s.issuing) (ht : t.mem.table = s.mem.table)
    (hp : t.ports = s.ports) : PortsKept s t :=
  RequestsKept.portsKept ⟨hh, hi, by simp only [MemPort.inFlightRecords, ht]⟩ hp

theorem PortsKept.ite {p : Prop} [Decidable p] (ht : PortsKept s t) (hu : PortsKept s u) :
    PortsKept s (if p then t else u) := by
  split
  · exact ht
  · exact hu

variable (s)

theorem State.captureAt_ports (a : Addr) : (s.captureAt a).ports = s.ports := by
  unfold State.captureAt State.captureWord
  split <;> rfl

theorem State.captureAt_portsKept (a : Addr) : PortsKept s (s.captureAt a) :=
  (s.captureAt_untouched a).portsKept (s.captureAt_ports a)

theorem State.takeAddress_portsKept (a : Addr) : PortsKept s (s.takeAddress a) := by
  refine (s.takeAddress_untouched a).portsKept ?_
  unfold State.takeAddress
  split
  · exact State.captureAt_ports ..
  · rfl
  · rfl

theorem State.closeFrame_portsKept : PortsKept s s.closeFrame := by
  refine s.closeFrame_untouched.portsKept ?_
  unfold State.closeFrame State.abandonClaim
  split <;> rfl

theorem State.settleTenure_portsKept : PortsKept s s.settleTenure :=
  .ite (.of_eq rfl rfl rfl rfl) (.of_eq rfl rfl rfl rfl)

theorem State.setWaitLimit_portsKept (c : ClassId) (n : Nat) : PortsKept s (s.setWaitLimit c n) :=
  .ite (.of_eq rfl rfl rfl rfl) (.ite (.of_eq rfl rfl rfl rfl) (.of_eq rfl rfl rfl rfl))

theorem State.clearCounter_portsKept (n : CounterId) : PortsKept s (s.clearCounter n) := by
  cases n with
  | requestsTaken | requestsRefused | protocolFaults =>
    exact RequestsKept.put ⟨rfl, rfl, rfl⟩ rfl rfl fun h => { h with }
  | _ => exact .of_eq rfl rfl rfl rfl

end elsewhere

/-! ## The port commands (R107, R108) -/

section commands
variable {s t : State} {p : Port}

/-- One port replaced by a record that keeps its law and its credit limit. -/
theorem PortsKept.withPort {k : PortRec} (hl : k.creditLimit = (s.ports.get p).creditLimit)
    (hk : s.PortSound p → k.Sound (s.heldTags p) (s.flightTags p) (s.issuingOf p)) : PortsKept s (s.withPort p k) :=
  RequestsKept.put ⟨rfl, rfl, rfl⟩ rfl hl hk

/-- The same with a cause raised. -/
theorem PortsKept.withPort_withCause {k : PortRec} {g : GroupId} {bit : Nat}
    (hl : k.creditLimit = (s.ports.get p).creditLimit)
    (hk : s.PortSound p → k.Sound (s.heldTags p) (s.flightTags p) (s.issuingOf p)) :
    PortsKept s ((s.withPort p k).withCause g bit) :=
  RequestsKept.put ⟨rfl, rfl, rfl⟩ rfl hl hk

theorem State.openPort_portsKept (h : s.openPort p = .ok t) : PortsKept s t := by
  cases hs : (s.ports.get p).state with
  | disabled =>
    rw [State.openPort_of_disabled hs] at h
    cases h
    exact .withPort rfl fun h => h.rests (by rw [hs]; rfl) (h.down (.inl hs)) rfl .permit _
  | closed =>
    cases hl : (s.ports.get p).linkUp with
    | true =>
      rw [State.openPort_of_closed_up hs hl, s.storeEntries_eq] at h
      cases h
      refine .withPort_withCause rfl fun h => ?_
      simpa only [hl] using h.opens (by rw [hs]; rfl) (s.issuingOf_le p) (s.ports.get p).retrain
    | false =>
      rw [State.openPort_of_closed_down hs hl] at h
      cases h
      exact .withPort rfl fun h => h.rests (by rw [hs]; rfl) hl rfl _ _
  | waiting | opened | closing =>
    rw [State.openPort_refused (by simp [hs])] at h
    cases h

theorem State.closePort_portsKept (h : s.closePort p = .ok t) : PortsKept s t := by
  cases hs : (s.ports.get p).state with
  | opened =>
    by_cases ho : (s.ports.get p).outstanding = []
    · rw [State.closePort_of_idle hs ho] at h
      cases h
      exact .withPort_withCause rfl fun h => h.closes ho rfl
    · rw [State.closePort_of_busy hs ho] at h
      cases h
      exact .withPort rfl fun h => h.beginsToClose hs
  | waiting =>
    rw [State.closePort_of_waiting hs] at h
    cases h
    exact .withPort rfl fun h => h.rests (by rw [hs]; rfl) (h.down (.inr hs)) rfl .holdDown false
  | disabled | closing | closed =>
    rw [State.closePort_refused (by simp [hs])] at h
    cases h

theorem State.resetPort_portsKept (h : s.resetPort p = .ok t) : PortsKept s t := by
  by_cases hs : (s.ports.get p).state = .disabled
  · rw [State.resetPort, hs] at h
    cases h
  · rw [State.resetPort_eq hs] at h
    cases h
    have reset := s.portReset_portsKept p
    exact .ite (reset.trans (.of_eq rfl rfl rfl rfl)) reset

end commands

/-! ## The store: removals, grants and the end of a send -/

/-- The host tags of the entries of port `p` in a list. -/
def tagsOfPort (l : List StoreEntry) (p : Port) : List HostTag := (l.filter (·.port = p)).map StoreEntry.hostTag

theorem tagsOfPort_append (l m : List StoreEntry) (p : Port) :
    tagsOfPort (l ++ m) p = tagsOfPort l p ++ tagsOfPort m p := by
  simp [tagsOfPort]

theorem tagsOfPort_perm {l m : List StoreEntry} (h : l.Perm m) (p : Port) :
    (tagsOfPort l p).Perm (tagsOfPort m p) := (h.filter _).map _

theorem State.heldTags_eq (s : State) (p : Port) : s.heldTags p = tagsOfPort s.held p := rfl

theorem State.issuingOf_eq (s : State) (p : Port) : s.issuingOf p = (tagsOfPort s.issuing.toList p).length := by
  simp [State.issuingOf, tagsOfPort]

/-- The entry of a granted request holds the request's tag (R130). -/
theorem InFlight.tagsOf_recordOf (e : StoreEntry) (left : Option Nat) (p : Port) :
    (InFlight.inFlight (recordOf e) left).tagsOf p = tagsOfPort [e] p := by
  by_cases h : e.port = p <;> simp [InFlight.tagsOf, InFlight.flight, tagsOfPort, recordOf, h]

/-- The removed entries of a port and those that stay are its HELD entries. -/
theorem State.heldOf_perm (s : State) (p : Port) (gone : StoreEntry → Bool) :
    ((s.heldOf p gone).map StoreEntry.hostTag ++ tagsOfPort (s.held.filter (!gone ·)) p).Perm (s.heldTags p) := by
  have parts := (List.filter_append_perm gone (s.held.filter (·.port = p))).map StoreEntry.hostTag
  rw [List.map_append, List.filter_filter, List.filter_filter] at parts
  simpa only [State.heldOf, State.heldTags, tagsOfPort, List.filter_filter, Bool.and_comm] using parts

/-- HELD requests that are removed are answered and give their credits back, while their port serves its host (R14,
R19). -/
theorem State.abortHeld_portsKept (s : State) (gone : StoreEntry → Bool) : PortsKept s (s.abortHeld gone) := fun p => by
  refine ⟨by rw [State.abortHeld_port, PortRec.given_creditLimit], fun h => ?_⟩
  have removed := s.heldOf_perm p gone
  have heldTags : (s.abortHeld gone).heldTags p = tagsOfPort (s.held.filter (!gone ·)) p := rfl
  have aborts : (s.heldAborts p gone).map Response.hostTag = (s.heldOf p gone).map StoreEntry.hostTag := by
    unfold State.heldAborts
    split
    · simp
    · next hs =>
      have shut : (s.ports.get p).state.serving = false := Bool.eq_false_iff.mpr (mt (PortState.serving_iff _).mp hs)
      rw [h.held_of_shut shut] at removed
      obtain ⟨none, -⟩ := List.append_eq_nil_iff.mp removed.eq_nil
      exact none.symm
  rw [State.PortSound, State.abortHeld_port]
  refine h.moved ?_ ?_
  · have hlen := removed.length_eq
    rw [List.length_append, List.length_map] at hlen
    show ((s.abortHeld gone).heldTags p).length + s.issuingOf p + _ = _
    rw [heldTags]
    omega
  · show ((s.abortHeld gone).heldTags p ++ s.flightTags p ++ _).Perm _
    rw [heldTags, aborts]
    refine List.perm_append_comm.trans ?_
    rw [← List.append_assoc]
    exact removed.append_right _

/-- A granted request goes from its queue to the D transmitter and to its in-flight entry (R11, R130). -/
theorem State.grant_portsKept {s : State} (hi : s.issuing = none) {c : ClassId} {kind : GrantKind} {e : StoreEntry}
    {d : DTag} (h : s.grantee = some ((c, kind), e, d)) : PortsKept s (s.grant c kind e d) := fun p => by
  obtain ⟨-, he, hd⟩ := s.grantee_eq_some.mp h
  obtain ⟨before, after, held, -, -, erased⟩ := s.queue_head_split he
  obtain ⟨free, -⟩ := MemPort.lowestFree_eq_some hd
  rw [State.grant_eq, erased]
  have taken : (tagsOfPort (before ++ after) p ++ tagsOfPort [e] p).Perm (s.heldTags p) := by
    rw [← tagsOfPort_append, s.heldTags_eq, held]
    exact tagsOfPort_perm ((List.perm_append_singleton e _).trans List.perm_middle.symm) p
  have flown : (State.flightTags { s with mem := s.mem.granted d e } p).Perm (tagsOfPort [e] p ++ s.flightTags p) := by
    have put := State.flightTags_put (s := s) (t := { s with mem := s.mem.granted d e }) rfl p
    rw [free, InFlight.tagsOf_recordOf] at put
    simpa [InFlight.tagsOf, InFlight.flight] using put
  refine .of_requests rfl ?_ ?_
  · rw [s.issuingOf_eq, hi, ← taken.length_eq, List.length_append, State.issuingOf_eq]
    rfl
  · show (tagsOfPort (before ++ after) p ++ State.flightTags { s with mem := s.mem.granted d e } p).Perm _
    refine (flown.append_left _).trans ?_
    rw [← List.append_assoc]
    exact taken.append_right _

/-- The port after the end of a send or its abandonment: the credit of the freed entry (R12, R13). -/
theorem State.freeIssuing_port (s : State) (p : Port) :
    s.freeIssuing.ports.get p = (s.ports.get p).given (s.issuingOf p) := by
  cases h : s.issuing with
  | none => simp [State.freeIssuing, h, State.issuingOf, PortRec.given]
  | some e =>
    simp only [State.freeIssuing, h, State.issuingOf, PortRec.returnCredits_eq, State.updPort_ports]
    by_cases he : e.port = p
    · subst he
      simp
    · simp [Table.get_put, he, PortRec.given]

theorem State.freeIssuing_issuing (s : State) : s.freeIssuing.issuing = none := by
  cases h : s.issuing <;> simp [State.freeIssuing, h]

/-- The ISSUING entry is freed, and its credit goes back to its port (R12). -/
theorem State.freeIssuing_portsKept (s : State) : PortsKept s s.freeIssuing := fun p => by
  refine ⟨by rw [State.freeIssuing_port, PortRec.given_creditLimit], fun h => ?_⟩
  have heldTags : s.freeIssuing.heldTags p = s.heldTags p := by
    cases hi : s.issuing <;> simp only [State.freeIssuing, hi] <;> rfl
  have flightTags : s.freeIssuing.flightTags p = s.flightTags p := by
    cases hi : s.issuing <;> simp only [State.freeIssuing, hi] <;> rfl
  have issuing : s.freeIssuing.issuingOf p = 0 := by rw [State.issuingOf, s.freeIssuing_issuing]; rfl
  have freed := h.moved (held' := s.heldTags p) (flight' := s.flightTags p) (issuing' := 0) (n := s.issuingOf p)
    (answers := []) rfl (by simp)
  rw [State.PortSound, State.freeIssuing_port, heldTags, flightTags, issuing]
  simpa using freed

/-! ## The memory port -/

/-- The host tags of the ABORTED answers are those of the IN_FLIGHT requests (R138). -/
theorem State.flightAborts_tags (s : State) (p : Port) : (s.flightAborts p).map Response.hostTag = s.flightTags p := by
  rw [← s.flightAborts_eq, List.map_map]
  rfl

/-- A clearing of the memory port answers every IN_FLIGHT request and frees the ISSUING entry (R138, R139). -/
theorem ClearedDownstream.portsKept {s t : State} (h : ClearedDownstream s t) (hh : t.held = s.held) :
    PortsKept s t := fun p => by
  obtain ⟨table, -, issuing, ports, -⟩ := h
  refine ⟨by rw [ports, PortRec.given_creditLimit], fun hs => ?_⟩
  have heldTags := State.heldTags_congr hh p
  have flightTags : t.flightTags p = [] := by
    rw [State.flightTags, MemPort.inFlightRecords_of_free table]
    rfl
  have issuingOf : t.issuingOf p = 0 := by rw [State.issuingOf, issuing]; rfl
  rw [State.PortSound, ports, heldTags, flightTags, issuingOf]
  exact hs.moved rfl (by rw [s.flightAborts_tags, List.append_nil])

theorem State.resetDownstream_portsKept (s : State) : PortsKept s s.resetDownstream :=
  s.resetDownstream_cleared.portsKept (by rw [s.resetDownstream_frame])

theorem State.memoryLinkLost_portsKept (s : State) : PortsKept s s.memoryLinkLost :=
  s.memoryLinkLost_cleared.portsKept (by rw [s.memoryLinkLost_frame]; rfl)

/-- TRAFFIC_RESET: the two parts that answer, in either order (R165). -/
theorem State.trafficReset_portsKept (s : State) : PortsKept s s.trafficReset := by
  have traffic : ∀ b, PortsKept s (s.resetTraffic b)
    | true => (s.abortHeld_portsKept _).trans s.resetStore.resetDownstream_portsKept
    | false => s.resetDownstream_portsKept.trans (State.abortHeld_portsKept _ _)
  exact (traffic _).trans (.of_eq rfl rfl rfl rfl)

theorem InFlight.tagsOf_of_none {x : InFlight} (h : x.flight = none) (p : Port) : x.tagsOf p = [] := by
  rw [InFlight.tagsOf, h]
  rfl

theorem InFlight.tagsOf_inFlight (r : FlightRecord) (left : Option Nat) (p : Port) :
    (InFlight.inFlight r left).tagsOf p = if r.port = p then [r.hostTag] else [] := by
  by_cases h : r.port = p <;> simp [InFlight.tagsOf, InFlight.flight, h]

section response
variable {s t : State} {d : DTag} {x : InFlight}

/-- The answer to an IN_FLIGHT request joins its port's queue when the entry leaves that state (R132 to R135). -/
theorem PortsKept.of_answer {r : FlightRecord} {left : Option Nat} {a : Answer}
    (hd : s.mem.table.get d = .inFlight r left) (ht : t.mem.table = s.mem.table.put d x) (hx : x.flight = none)
    (hh : t.held = s.held) (hi : t.issuing = s.issuing)
    (hp : t.ports = (s.answer r.port ⟨r.hostTag, a⟩).ports) : PortsKept s t := fun p => by
  have heldTags := State.heldTags_congr hh p
  have issuing := State.issuingOf_congr hi p
  have flight := State.flightTags_put ht p
  rw [hd, InFlight.tagsOf_of_none hx, InFlight.tagsOf_inFlight, List.nil_append] at flight
  by_cases hr : r.port = p
  · subst hr
    have port : t.ports.get r.port = (s.ports.get r.port).enqueue ⟨r.hostTag, a⟩ := by
      rw [hp, State.answer, State.updPort_ports, Table.get_put_self]
    refine ⟨by rw [port]; rfl, fun h => ?_⟩
    rw [State.PortSound, port, heldTags, issuing]
    rw [if_pos rfl] at flight
    exact h.answered flight
  · have port : t.ports.get p = s.ports.get p := by
      rw [hp, State.answer, State.updPort_ports, Table.get_put_of_ne _ _ hr]
    refine .of_requests port (by rw [heldTags, issuing]) ?_
    rw [if_neg hr, List.append_nil] at flight
    rw [heldTags]
    exact flight.append_left _

/-- An entry that is not IN_FLIGHT changes to another that is not (R134, R135). -/
theorem PortsKept.of_entry (hd : (s.mem.table.get d).flight = none) (ht : t.mem.table = s.mem.table.put d x)
    (hx : x.flight = none) (hh : t.held = s.held) (hi : t.issuing = s.issuing) (hp : t.ports = s.ports) :
    PortsKept s t := fun p => by
  have heldTags := State.heldTags_congr hh p
  have issuing := State.issuingOf_congr hi p
  refine .of_requests (by rw [hp]) (by rw [heldTags, issuing]) ?_
  rw [heldTags]
  exact (State.flightTags_put_none ht hd hx p).append_left _

end response

/-- A response for an IN_FLIGHT entry gives its port one answer, whether it matches or not (R132, R133). -/
theorem State.answerInFlight_ports (s : State) (d : DTag) (r : FlightRecord) (k : MemPacket) :
    ∃ a, (s.answerInFlight d r k).ports = (s.answer r.port ⟨r.hostTag, a⟩).ports := by
  unfold State.answerInFlight
  split
  · exact ⟨_, rfl⟩
  · split <;> exact ⟨_, rfl⟩

theorem State.memoryResponse_portsKept (s : State) (k : MemPacket) : PortsKept s (s.memoryResponse k) := by
  unfold State.memoryResponse
  split
  · next r left hd =>
    have freed := s.answerInFlight_untouched k.tag r k
    obtain ⟨a, ports⟩ := s.answerInFlight_ports k.tag r k
    exact .of_answer hd freed.table rfl freed.held freed.issuing ports
  · next hd => exact .of_entry (d := k.tag) (x := .free) (by rw [hd]; rfl) rfl rfl rfl rfl rfl
  · next hd => exact .of_entry (d := k.tag) (x := .free) (by rw [hd]; rfl) rfl rfl rfl rfl rfl
  · exact .of_eq rfl rfl rfl rfl

theorem State.memoryPacket_portsKept (s : State) (k : MemPacket) : PortsKept s (s.memoryPacket k) := by
  unfold State.memoryPacket
  split
  · exact s.memoryResponse_portsKept k
  · exact s.memoryResponse_portsKept k
  · exact s.memoryResponse_portsKept k
  · exact .ite (.of_eq rfl rfl rfl rfl) (.of_eq rfl rfl rfl rfl)
  · exact .of_eq rfl rfl rfl rfl

/-- What makes an entry LATE, the causes apart. -/
theorem State.makeLate_frame (s : State) (d : DTag) (r : FlightRecord) :
    s.makeLate d r = { s with
      mem := { s.mem with table := s.mem.table.put d (.late r) }, groups := (s.makeLate d r).groups } := by
  unfold State.makeLate State.quarantineCheck
  split <;> rfl

/-- A timeout of an IN_FLIGHT entry is its answer; that of an ORPHAN entry answers nothing (R135). -/
theorem State.timeOut_portsKept (s : State) (d : DTag) : PortsKept s (s.timeOut d) := by
  unfold State.timeOut
  split
  · next r hd =>
    rw [State.makeLate_frame]
    exact .of_answer hd rfl rfl rfl rfl rfl
  · next r hd =>
    rw [State.makeLate_frame]
    exact .of_entry (d := d) (by rw [hd]; rfl) rfl rfl rfl rfl rfl
  · exact .of_eq rfl rfl rfl rfl

theorem InFlight.tick_flight (x : InFlight) : x.tick.flight = x.flight := by
  cases x with
  | inFlight r left => cases left <;> rfl
  | orphan r left => cases left <;> rfl
  | _ => rfl

/-- A base tick moves remaining times alone (R131). -/
theorem State.tick_portsKept (s : State) : PortsKept s s.tick := by
  have hread := s.readTick_untouched
  refine .ite (RequestsKept.portsKept ⟨hread.held, hread.issuing, ?_⟩ ?_) (.of_eq rfl rfl rfl rfl)
  · simp only [MemPort.inFlightRecords_eq, State.updMem_mem, Table.get_build, InFlight.tick_flight]
    exact congrArg (fun t : Table 64 InFlight => (List.finRange 64).filterMap fun d => (t.get d).flight) hread.table
  · show s.readTick.ports = s.ports
    unfold State.readTick
    split
    · exact s.captureAt_ports _
    · rfl

/-! ## A credit limit changed (R114) -/

/-- The sum of the credit limits is that of one port and those of the others. -/
theorem State.limits_eq (s : State) (p : Port) :
    ((List.finRange 4).map fun q => (s.ports.get q).creditLimit).sum =
      (s.ports.get p).creditLimit + s.otherLimits p := by
  have others : (List.finRange 4).filter (· ≠ p) = (List.finRange 4).erase p := by
    rw [(List.nodup_finRange 4).erase_eq_filter]
    exact List.filter_congr fun q _ => by by_cases h : q = p <;> simp [h]
  rw [State.otherLimits, others]
  exact (List.sum_map_erase _ (List.mem_finRange p)).symm

/-- A credit limit that is set on a port that serves no host (R114). -/
theorem State.PortsSound.setCreditLimit {s : State} (h : s.PortsSound) {p : Port} {n : Nat} (hn : 1 ≤ n ∧ n ≤ 64)
    (hs : (s.ports.get p).state.serving = false) (hsum : n + s.otherLimits p ≤ 128) :
    (s.updPort p fun k => { k with creditLimit := n }).PortsSound where
  ports q := by
    by_cases hq : p = q
    · subst hq
      have hp := h.ports p
      rw [State.PortSound, State.updPort_ports, Table.get_put_self]
      exact { hp with
        limit := hn
        opened := fun ho => by rw [show (s.ports.get p).state = .opened from ho] at hs; cases hs
        closing := fun hc => by rw [show (s.ports.get p).state = .closing from hc] at hs; cases hs }
    · rw [State.PortSound, State.updPort_ports, Table.get_put_of_ne _ _ hq]
      exact h.ports q
  limits := by
    have others : (s.updPort p fun k => { k with creditLimit := n }).otherLimits p = s.otherLimits p := by
      refine congrArg List.sum (List.map_congr_left fun q hq => ?_)
      rw [State.updPort_ports, Table.get_put_of_ne _ _ (of_decide_eq_true (List.mem_filter.mp hq).2).symm]
    rw [State.limits_eq _ p, others, State.updPort_ports, Table.get_put_self]
    exact hsum

/-! ## Every step -/

theorem State.atPowerOn_portsSound (s : State) (b : Bool) : (s.atPowerOn b).PortsSound :=
  State.PortsSound.of_kept (s := State.powerOn b)
    ((State.portsSound_iff _).mpr ⟨State.powerOn_creditLaw b, State.powerOn_answerLaw b⟩) (.of_eq rfl rfl rfl rfl)

/-- An accepted word keeps the laws; a credit limit word alone changes a limit. -/
theorem Accepted.portsSound {s t : State} (ht : Accepted s t) (h : s.PortsSound) : t.PortsSound := by
  cases ht with
  | creditLimit p n hn hp hs => exact h.setCreditLimit hn hp hs
  | defaultAction p a => exact h.of_kept (.updPort rfl fun h => { h with })
  | waitLimit c n => exact h.of_kept (s.setWaitLimit_portsKept c n)
  | counter n => exact h.of_kept (s.clearCounter_portsKept n)
  | openPort p ht => exact h.of_kept (State.openPort_portsKept ht)
  | closePort p ht => exact h.of_kept (State.closePort_portsKept ht)
  | resetPort p ht => exact h.of_kept (State.resetPort_portsKept ht)
  | resetDownstream => exact h.of_kept s.resetDownstream_portsKept
  | purgeClass c => exact h.of_kept (s.abortHeld_portsKept _)
  | trafficReset => exact h.of_kept s.trafficReset_portsKept
  | _ => exact h.of_kept (.of_eq rfl rfl rfl rfl)

/-- Every command keeps the laws.  A decision is taken only while the D transmitter is idle (R43), and so while no entry
is ISSUING (R128). -/
theorem Effect.portsSound {s t : State} {i : Instr} (ht : Effect s i t) (hm : s.mem.dTx.map DPacket.entry = s.issuing)
    (h : s.PortsSound) : t.PortsSound := by
  cases ht with
  | accepted _ ht => exact (ht.portsSound h).of_kept (.of_eq rfl rfl rfl rfl)
  | discarded p => exact h.of_kept (s.discardPacket_portsKept p)
  | refused p packet kind reason cls _ _ hk =>
    exact h.of_kept (State.refuseRequest_portsKept ((s.admits_iff p _ kind).mp hk) reason cls)
  | taken p packet kind c _ _ hk =>
    obtain ⟨hc, -, ht⟩ := (s.admits_iff p _ kind).mp hk
    exact h.of_kept (State.takeRequest_portsKept (e := storeEntryOf p kind _ c) hc ht)
  | portLinkUp p => exact h.of_kept (s.portLinkUp_portsKept p)
  | portLinkLost p => exact h.of_kept (s.portLinkLost_portsKept p)
  | upstreamSendBegin p _ hl => exact h.of_kept (State.upstreamSendBegin_portsKept hl)
  | creditSendEnd p => exact h.of_kept (.updPort rfl fun h => h.endsSend)
  | responseSendEnd p => exact h.of_kept (s.responseSent_portsKept p)
  | settled => exact h.of_kept s.settleTenure_portsKept
  | granted c kind e d hd hg =>
    obtain ⟨-, -, idle, -⟩ := hd
    rw [idle] at hm
    exact h.of_kept (s.settleTenure_portsKept.trans
      (State.grant_portsKept (s.settleTenure_untouched.issuing.trans hm.symm) hg))
  | sendEnd => exact h.of_kept s.freeIssuing_portsKept
  | memoryPacket => exact h.of_kept (s.memoryPacket_portsKept _)
  | memLinkUp => exact h.of_kept (.ite (.of_eq rfl rfl rfl rfl) (.of_eq rfl rfl rfl rfl))
  | memLinkLost => exact h.of_kept s.memoryLinkLost_portsKept
  | entryTimeout d => exact h.of_kept (s.timeOut_portsKept d)
  | rstAssert => exact (s.atPowerOn_portsSound false).of_kept (.of_eq rfl rfl rfl rfl)
  | rstRelease b => exact s.atPowerOn_portsSound b
  | lastAddressBit a => exact h.of_kept (s.takeAddress_portsKept a)
  | csRise =>
    have risen : PortsKept s (s.updPins fun k => { k with csLow := false }) := .of_eq rfl rfl rfl rfl
    exact h.of_kept (risen.trans (State.closeFrame_portsKept _))
  | claimCapture g => exact h.of_kept (s.captureAt_portsKept _)
  | claimCompletion g =>
    have completed : PortsKept s (s.completeClaim g) := .of_eq rfl rfl rfl rfl
    exact h.of_kept (completed.trans (State.captureAt_portsKept _ _))
  | snapshotSlotRead c =>
    have freed : PortsKept s (s.updClass c fun k => { k with slot := none }) := .of_eq rfl rfl rfl rfl
    exact h.of_kept (freed.trans (State.captureAt_portsKept _ _))
  | _ => exact h.of_kept (.of_eq rfl rfl rfl rfl)

/-- Settles O46: a base tick and every command keep the law of each port and the sum of the limits. -/
theorem portLawsKept : Obligations.PortLawsKept := by
  intro s t hm hc ha hstep
  obtain ⟨-, -, sending, -⟩ := hm
  have h : s.PortsSound := s.portsSound_iff.mpr ⟨hc, ha⟩
  rw [← State.portsSound_iff]
  rcases effect_of_step hstep with ⟨-, rfl⟩ | ⟨i, rest, -, heffect⟩
  · exact h.of_kept s.tick_portsKept
  · exact heffect.portsSound sending (h.of_kept (.of_eq rfl rfl rfl rfl))

end Sys2Proof.Machine


/-! # The RST# line (R166) -/

namespace Sys2Proof.Machine

/-- The level of CS set to what it is. -/
theorem State.updPins_csLow {s : State} {b : Bool} (h : s.pins.csLow = b) :
    (s.updPins fun k => { k with csLow := b }) = s := by
  subst h
  rfl

section asleep
variable {s : State} (hr : s.pins.rstLow = true)
include hr

theorem State.awake_of_rstLow : s.awake = false := by rw [State.awake, hr]; rfl

/-- While RST# is low no word is taken. -/
theorem State.writeWord_of_rstLow (w : MgmtWord) (own : State → Except Reject State) : s.writeWord w own = s := by
  rw [State.writeWord, State.writingAt, State.awake_of_rstLow hr]
  rfl

/-- An event that waits for RST# to be high has no effect while it is low. -/
theorem State.ite_of_rstLow (u : State) : (if s.awake = true then u else s) = s := by
  rw [State.awake_of_rstLow hr]
  rfl

/-- The same for an event with a further condition. -/
theorem State.ite_and_of_rstLow (b : Bool) (u : State) : (if (s.awake && b) = true then u else s) = s := by
  rw [State.awake_of_rstLow hr]
  rfl

theorem State.decide_of_rstLow : s.decide = s := State.ite_and_of_rstLow hr ..

theorem State.memoryListens_of_rstLow : s.memoryListens = false := by
  rw [State.memoryListens, State.awake_of_rstLow hr]
  rfl

theorem State.readingFreely_of_rstLow : s.readingFreely = false := by
  rw [State.readingFreely, State.awake_of_rstLow hr]
  rfl

/-- While RST# is low a command other than its own and those of CS does nothing. -/
theorem exec_of_rstLow {c : Instr} (ha : c ≠ .rstAssert) (hrel : ∀ b, c ≠ .rstRelease b) (hfall : c ≠ .csFall)
    (hrise : c ≠ .csRise) : exec c s = .next s := by
  have word := State.writeWord_of_rstLow hr
  have event := State.ite_of_rstLow hr
  have guarded := State.ite_and_of_rstLow hr
  have asleep := State.awake_of_rstLow hr
  cases c with
  | rstAssert => exact absurd rfl ha
  | rstRelease b => exact absurd rfl (hrel b)
  | csFall => exact absurd rfl hfall
  | csRise => exact absurd rfl hrise
  | grantDecision => exact congrArg Host.Outcome.next (State.decide_of_rstLow hr)
  | memoryResponse | memCredit =>
    exact congrArg Host.Outcome.next (if_neg (by rw [State.memoryListens_of_rstLow hr]; nofun))
  | claimCapture | snapshotSlotRead =>
    exact congrArg Host.Outcome.next (if_neg (by rw [State.readingFreely_of_rstLow hr]; nofun))
  | creditSendEnd | responseSendEnd =>
    refine congrArg Host.Outcome.next ?_
    split
    · exact event _
    · rfl
  | entryTimeout | frameEdge => exact congrArg Host.Outcome.next (event _)
  | upstreamSendBegin => exact congrArg Host.Outcome.next (if_neg (by rw [asleep]; nofun))
  | arrivalEvent | portLinkUp | portLinkLost | sendEnd | memTraining | memLinkUp | memLinkLost | waitClockExpiry
  | epochBoundary | midEpochPoint | opcodeByte | lastAddressBit | claimCompletion | wordWrite =>
    exact congrArg Host.Outcome.next (guarded _ _)
  | _ => exact congrArg Host.Outcome.next (word _ _)

theorem exec_csFall_of_rstLow : exec .csFall s = .next (s.updPins fun k => { k with csLow := true }) := by
  refine congrArg Host.Outcome.next ?_
  split
  · next hc => rw [State.updPins_csLow hc]
  · exact if_neg (by rw [State.awake_of_rstLow hr]; nofun)

theorem exec_csRise_of_rstLow : exec .csRise s = .next (s.updPins fun k => { k with csLow := false }) := by
  refine congrArg Host.Outcome.next ?_
  split
  · exact if_neg (by rw [State.awake_of_rstLow hr]; nofun)
  · next hc => rw [State.updPins_csLow (Bool.eq_false_iff.mpr hc)]

end asleep

/-- Settles O4: the two events of RST# are `State.atPowerOn`, and while it is low only CS moves. -/
theorem resetLine : Obligations.ResetLine :=
  ⟨fun _ => rfl, fun _ _ hr => congrArg Host.Outcome.next (if_pos hr),
    fun _ hr => ⟨exec_csFall_of_rstLow hr, exec_csRise_of_rstLow hr⟩, fun _ _ hr => exec_of_rstLow hr⟩

end Sys2Proof.Machine


/-! # The memory port's law and the in-flight table (R126, R127, R129, R131, R135, R136, R138, R140)

What each command leaves of the memory port, the law of the memory port under every step, the timeout of an entry, and
a response that meets the timeout of its entry. -/

namespace Sys2Proof.Machine

/-! ## In-flight entries as they age -/

/-- `x` is what an in-flight entry `y` can become other than by a grant (R129, R131): a FREE tag stays FREE, and a
remaining time only falls. -/
structure InFlight.Follows (x y : InFlight) : Prop where
  free : y = .free → x = .free
  remaining : ∀ n, x.remaining = some n → ∃ m, y.remaining = some m ∧ n ≤ m

theorem InFlight.Follows.refl (x : InFlight) : x.Follows x := ⟨id, fun n h => ⟨n, h, le_rfl⟩⟩

theorem InFlight.Follows.trans {x y z : InFlight} (h : x.Follows y) (g : y.Follows z) : x.Follows z where
  free hz := h.free (g.free hz)
  remaining n hn := by
    obtain ⟨m, hm, hnm⟩ := h.remaining n hn
    obtain ⟨l, hl, hml⟩ := g.remaining m hm
    exact ⟨l, hl, hnm.trans hml⟩

theorem InFlight.free_follows (y : InFlight) : InFlight.free.Follows y := ⟨fun _ => rfl, nofun⟩

theorem InFlight.late_follows {y : InFlight} (h : y ≠ .free) (r : FlightRecord) : (InFlight.late r).Follows y :=
  ⟨fun hy => absurd hy h, nofun⟩

/-- An ORPHAN keeps its remaining time (R137). -/
theorem InFlight.orphaned_follows (p : Port) (x : InFlight) : (x.orphaned p).Follows x := by
  cases x with
  | inFlight r left =>
    rw [InFlight.orphaned]
    split
    · exact ⟨nofun, fun n h => ⟨n, h, le_rfl⟩⟩
    · exact .refl _
  | _ => exact .refl _

/-- A base tick lowers a remaining time by 1 (R131). -/
theorem InFlight.tick_follows (x : InFlight) : x.tick.Follows x := by
  have falls : ∀ n m : Nat, some (n - 1) = some m → ∃ l, some n = some l ∧ m ≤ l := by
    rintro n _ ⟨⟩
    exact ⟨n, rfl, n.sub_le 1⟩
  cases x with
  | inFlight r left =>
    cases left with
    | none => exact .refl _
    | some n => exact ⟨nofun, falls n⟩
  | orphan r left =>
    cases left with
    | none => exact .refl _
    | some n => exact ⟨nofun, falls n⟩
  | _ => exact .refl _

/-! ## The law of the memory port, part by part -/

/-- The memory port's law (R126, R127, R128, R131, R138). -/
structure State.MemorySound (s : State) : Prop where
  credits : s.mem.credits ≤ s.mem.announced
  announced : s.mem.announced ≤ 32
  down : s.mem.link ≠ .up → s.mem.credits = 0 ∧ s.issuing = none ∧ ∀ d, s.mem.table.get d = .free
  sending : s.mem.dTx.map DPacket.entry = s.issuing
  remaining : ∀ d n, (s.mem.table.get d).remaining = some n → n ≤ 65535
  timeout : s.mem.timeout ≤ 65535

theorem State.memorySound_iff (s : State) : s.MemorySound ↔ s.MemoryLaw :=
  ⟨fun h => ⟨⟨h.credits, h.announced⟩, h.down, h.sending, h.remaining, h.timeout⟩,
    fun ⟨⟨credits, announced⟩, down, sending, remaining, timeout⟩ =>
      ⟨credits, announced, down, sending, remaining, timeout⟩⟩

/-! ## What a command leaves of the memory port -/

/-- `n` has the link, the credits, the send and the response timeout of `m`. -/
def MemPort.SameLink (m n : MemPort) : Prop :=
  n = { m with
    table := n.table, retrain := n.retrain, quarantineLevel := n.quarantineLevel, timeouts := n.timeouts
    lateDiscarded := n.lateDiscarded, unexpectedResponses := n.unexpectedResponses, memoryErrors := n.memoryErrors }

theorem MemPort.SameLink.trans {m n o : MemPort} (h : m.SameLink n) (g : n.SameLink o) : m.SameLink o := by
  unfold MemPort.SameLink at h g ⊢
  rw [g, h]

/-- The link, the credits and the send stand, and each in-flight entry ages at most. -/
structure MemoryKept (s t : State) : Prop where
  entries : ∀ d, (t.mem.table.get d).Follows (s.mem.table.get d)
  port : s.mem.SameLink t.mem
  issuing : t.issuing = s.issuing

theorem MemoryKept.link {s t : State} (h : MemoryKept s t) : t.mem.link = s.mem.link := by rw [h.port]

/-- What a command leaves sound. -/
theorem State.MemorySound.of_kept {s t : State} (h : s.MemorySound) (g : MemoryKept s t) : t.MemorySound where
  credits := by rw [g.port]; exact h.credits
  announced := by rw [g.port]; exact h.announced
  down hl := by
    rw [g.link] at hl
    obtain ⟨credits, issuing, table⟩ := h.down hl
    refine ⟨?_, g.issuing.trans issuing, fun d => (g.entries d).free (table d)⟩
    rw [g.port]
    exact credits
  sending := by rw [g.port, g.issuing]; exact h.sending
  remaining d n hn := by
    obtain ⟨m, hm, hnm⟩ := (g.entries d).remaining n hn
    exact hnm.trans (h.remaining d m hm)
  timeout := by rw [g.port]; exact h.timeout

namespace MemoryKept
variable {s t u : State}

theorem trans (h : MemoryKept s t) (g : MemoryKept t u) : MemoryKept s u where
  entries d := (g.entries d).trans (h.entries d)
  port := h.port.trans g.port
  issuing := g.issuing.trans h.issuing

theorem ite {p : Prop} [Decidable p] (ht : MemoryKept s t) (hu : MemoryKept s u) :
    MemoryKept s (if p then t else u) := by
  split
  · exact ht
  · exact hu

/-- A change of the memory port's counters, its quarantine level or its retrain request. -/
theorem of_table (ht : t.mem.table = s.mem.table) (hp : s.mem.SameLink t.mem) (hi : t.issuing = s.issuing) :
    MemoryKept s t where
  entries d := by rw [ht]; exact .refl _
  port := hp
  issuing := hi

theorem of_eq (hm : t.mem = s.mem) (hi : t.issuing = s.issuing) : MemoryKept s t :=
  .of_table (by rw [hm]) (by rw [hm]; rfl) hi

theorem raise (h : MemoryKept s t) (k : Cause) : MemoryKept s (t.raise k) := h.trans (.of_eq rfl rfl)

theorem putEntry {d : DTag} {x : InFlight} (hx : x.Follows (s.mem.table.get d)) :
    MemoryKept s (s.updMem (·.putEntry d x)) where
  entries e := by
    rw [State.updMem_mem, MemPort.putEntry, Table.get_put]
    split
    · next h => exact h ▸ hx
    · exact .refl _
  port := rfl
  issuing := rfl

end MemoryKept

section kept
variable (s : State)

/-! Host ports. -/

theorem State.portLinkUp_memoryKept (p : Port) : MemoryKept s (s.portLinkUp p) := by
  unfold State.portLinkUp
  cases (s.ports.get p).state <;> exact .of_eq rfl rfl

/-- The IN_FLIGHT entries of a port that is cut off become ORPHAN (R109, R137). -/
theorem State.cutPort_memoryKept (p : Port) : MemoryKept s (s.cutPort p) where
  entries d := by
    rw [State.cutPort, State.updPort_mem, State.updMem_mem, Table.get_build]
    exact InFlight.orphaned_follows ..
  port := rfl
  issuing := rfl

theorem State.portLinkLost_memoryKept (p : Port) : MemoryKept s (s.portLinkLost p) :=
  (s.cutPort_memoryKept p).trans (.ite (.of_eq rfl rfl) (.of_eq rfl rfl))

theorem State.openPort_memoryKept {p : Port} {t : State} (h : s.openPort p = .ok t) : MemoryKept s t := by
  unfold State.openPort at h
  split at h
  · cases h; exact .of_eq rfl rfl
  · cases h; exact .ite (.of_eq rfl rfl) (.of_eq rfl rfl)
  · cases h

theorem State.closePort_memoryKept {p : Port} {t : State} (h : s.closePort p = .ok t) : MemoryKept s t := by
  unfold State.closePort at h
  split at h
  · cases h; exact .ite (.of_eq rfl rfl) (.of_eq rfl rfl)
  · cases h; exact .of_eq rfl rfl
  · cases h

theorem State.resetPort_memoryKept {p : Port} {t : State} (h : s.resetPort p = .ok t) : MemoryKept s t := by
  unfold State.resetPort at h
  split at h
  · cases h
  · cases h; exact (s.cutPort_memoryKept p).trans (.ite (.of_eq rfl rfl) (.of_eq rfl rfl))

theorem State.refuseRequest_memoryKept (p : Port) (tag : HostTag) (reason : RefusalReason) (cls : Option ClassId) :
    MemoryKept s (s.refuseRequest p tag reason cls) := by
  cases cls with
  | none => exact .of_eq rfl rfl
  | some c => cases reason <;> exact .of_eq rfl rfl

theorem State.takeRequest_memoryKept (e : StoreEntry) : MemoryKept s (s.takeRequest e) := by
  rw [State.takeRequest_eq]
  exact .of_eq rfl rfl

/-! Responses and timeouts. -/

theorem State.freeTag_memoryKept (d : DTag) : MemoryKept s (s.freeTag d) := .putEntry (InFlight.free_follows _)

theorem State.unexpectedResponse_memoryKept : MemoryKept s s.unexpectedResponse := .of_table rfl rfl rfl

theorem State.answerInFlight_memoryKept (d : DTag) (r : FlightRecord) (k : MemPacket) :
    MemoryKept s (s.answerInFlight d r k) :=
  (s.freeTag_memoryKept d).trans
    (.ite (.of_eq rfl rfl) (.ite (.of_table rfl rfl rfl) (.of_eq rfl rfl)))

theorem State.memoryResponse_memoryKept (k : MemPacket) : MemoryKept s (s.memoryResponse k) := by
  unfold State.memoryResponse
  split
  · exact s.answerInFlight_memoryKept ..
  · exact s.freeTag_memoryKept _
  · exact (s.freeTag_memoryKept _).trans (.of_table rfl rfl rfl)
  · exact s.unexpectedResponse_memoryKept

theorem State.makeLate_memoryKept {d : DTag} (hd : s.mem.table.get d ≠ .free) (r : FlightRecord) :
    MemoryKept s (s.makeLate d r) := by
  have late : MemoryKept s (s.updMem (·.putEntry d (.late r))) := .putEntry (InFlight.late_follows hd r)
  exact .ite (late.raise _) late

/-- The entry that times out is not FREE (R135). -/
theorem State.timeOut_memoryKept (d : DTag) : MemoryKept s (s.timeOut d) := by
  unfold State.timeOut
  split
  · next r hd =>
    have answered : MemoryKept s (((s.answer r.port ⟨r.hostTag, .timeout⟩).updMem fun m =>
        { m with timeouts := bump m.timeouts 1 }).raise (.down .timeout)) := .of_table rfl rfl rfl
    exact answered.trans (State.makeLate_memoryKept _ (by
      show s.mem.table.get d ≠ .free
      rw [hd]
      nofun) r)
  · next r hd => exact s.makeLate_memoryKept (by rw [hd]; nofun) r
  · exact .of_eq rfl rfl

/-! Classes, the arbiter and the management link. -/

theorem State.setWaitLimit_memoryKept (c : ClassId) (n : Nat) : MemoryKept s (s.setWaitLimit c n) :=
  .ite (.of_eq rfl rfl) (.ite (.of_eq rfl rfl) (.of_eq rfl rfl))

theorem State.clearCounter_memoryKept (n : CounterId) : MemoryKept s (s.clearCounter n) := by
  cases n with
  | timeouts | lateDiscarded | unexpectedResponses | memoryErrors => exact .of_table rfl rfl rfl
  | _ => exact .of_eq rfl rfl

theorem State.settleTenure_memoryKept : MemoryKept s s.settleTenure := .ite (.of_eq rfl rfl) (.of_eq rfl rfl)

theorem State.captureAt_memoryKept (a : Addr) : MemoryKept s (s.captureAt a) := by
  unfold State.captureAt State.captureWord
  split <;> exact .of_eq rfl rfl

theorem State.takeAddress_memoryKept (a : Addr) : MemoryKept s (s.takeAddress a) := by
  unfold State.takeAddress
  split
  · have addressed : ∀ f, MemoryKept s (s.updMgmt f) := fun _ => .of_eq rfl rfl
    exact (addressed _).trans (State.captureAt_memoryKept _ a)
  · exact .of_eq rfl rfl
  · exact .of_eq rfl rfl

theorem State.closeFrame_memoryKept : MemoryKept s s.closeFrame := by
  unfold State.closeFrame State.abandonClaim
  split <;> exact .of_eq rfl rfl

/-- A base tick lowers the remaining times (R131). -/
theorem State.tick_memoryKept : MemoryKept s s.tick := by
  by_cases hr : s.pins.rstLow = true
  · rw [State.tick, if_neg (by simp [State.awake, hr])]
    exact .of_eq rfl rfl
  · rw [State.tick_of_awake (Bool.eq_false_iff.mpr hr), State.readTick_frame]
    exact ⟨fun d => by rw [Table.get_build]; exact InFlight.tick_follows _, rfl, rfl⟩

end kept

/-! ## What a command makes of the memory port -/

namespace State.MemorySound
variable {s t : State} (h : s.MemorySound)
include h

/-- CREDIT messages are received while the link is UP, and stop at the announced count (R71, R127). -/
theorem memoryCredit (hl : s.mem.link = .up) (n : Nat) : (s.memoryCredit n).MemorySound := by
  have raised : ∀ c ≤ s.mem.announced, (s.updMem fun m => { m with credits := c }).MemorySound := fun c hc =>
    { h with credits := hc, announced := h.announced, down := fun hd => absurd hl hd }
  have hcredits := h.credits
  unfold State.memoryCredit
  split
  · exact (raised _ le_rfl).of_kept (.of_eq rfl rfl)
  · exact raised _ (by omega)

theorem memoryPacket (hl : s.mem.link = .up) (k : MemPacket) : (s.memoryPacket k).MemorySound := by
  unfold State.memoryPacket
  split
  · exact h.of_kept (s.memoryResponse_memoryKept k)
  · exact h.of_kept (s.memoryResponse_memoryKept k)
  · exact h.of_kept (s.memoryResponse_memoryKept k)
  · exact h.memoryCredit hl k.count
  · exact h.of_kept s.unexpectedResponse_memoryKept

/-- A grant, which the link is UP for, sends its entry and gives it the response timeout (R43, R127, R128, R130). -/
theorem grant (hl : s.mem.link = .up) (c : ClassId) (kind : GrantKind) (e : StoreEntry) (d : DTag) :
    (s.grant c kind e d).MemorySound := by
  have initial : ∀ n, s.mem.initialTime = some n → n ≤ 65535 := fun n hn => by
    have ht := h.timeout
    unfold MemPort.initialTime at hn
    split at hn
    · cases hn
    · cases hn; exact ht
  rw [State.grant_eq]
  exact {
    credits := (Nat.sub_le _ 1).trans h.credits
    announced := h.announced
    down := fun hd => absurd hl hd
    sending := rfl
    remaining :=
      forall_get_put (P := fun x : InFlight => ∀ n, x.remaining = some n → n ≤ 65535) h.remaining initial
    timeout := h.timeout }

/-- The end of a send (R12, R128). -/
theorem freeIssuing : s.freeIssuing.MemorySound := by
  unfold State.freeIssuing
  split
  · next hi => exact { h with sending := hi.symm }
  · exact { h with
      down := fun hl => have ⟨credits, _, table⟩ := h.down hl; ⟨credits, rfl, table⟩
      sending := rfl }

/-- An accepted announcement gives its credits (R126). -/
theorem memoryLinkUp (n : Nat) : (s.memoryLinkUp n).MemorySound := by
  unfold State.memoryLinkUp
  split
  · next hn =>
    have ⟨_, high⟩ := Bool.and_eq_true_iff.mp hn
    exact { h with
      credits := le_rfl
      announced := of_decide_eq_true high
      down := fun hd => absurd rfl hd }
  · exact h.of_kept (.of_table rfl rfl rfl)

/-- Training of a link that is not UP leaves it not UP (R125). -/
theorem memTraining (hl : s.mem.link ≠ .up) :
    (s.updMem fun m => { m with link := .training, retrain := false }).MemorySound :=
  { h with down := fun _ => h.down hl }

/-- A memory port that is cleared is sound whatever its link becomes (R138, R139, R144). -/
theorem cleared (hm : t.mem = { s.mem with
      table := .build fun _ => .free, dTx := none, credits := 0, link := t.mem.link, retrain := t.mem.retrain })
    (hi : t.issuing = none) : t.MemorySound := by
  have free : ∀ d, t.mem.table.get d = .free := fun d => by rw [hm]; exact Table.get_build ..
  have credits : t.mem.credits = 0 := by rw [hm]
  exact {
    credits := credits ▸ Nat.zero_le _
    announced := by rw [hm]; exact h.announced
    down := fun _ => ⟨credits, hi, free⟩
    sending := by rw [hm, hi]; rfl
    remaining := fun d n hn => by rw [free d] at hn; cases hn
    timeout := by rw [hm]; exact h.timeout }

theorem memoryLinkLost : s.memoryLinkLost.MemorySound :=
  h.cleared (by simp only [State.memoryLinkLost, State.raise_mem, State.updMem_mem, s.clearDownstream_mem])
    s.clearDownstream_issuing

theorem resetDownstream : s.resetDownstream.MemorySound :=
  h.cleared (by rw [State.resetDownstream_mem]) s.clearDownstream_issuing

theorem trafficReset : s.trafficReset.MemorySound := by
  have traffic : (s.resetTraffic (Config.storePartFirst s.freeIndex)).MemorySound :=
    h.cleared (by rw [State.resetTraffic_mem]) (s.resetTraffic_empty _).2
  exact traffic.of_kept (.of_eq rfl rfl)

end State.MemorySound

theorem State.atPowerOn_memorySound (s : State) (b : Bool) : (s.atPowerOn b).MemorySound :=
  State.MemorySound.of_kept (s := State.powerOn b) ((State.memorySound_iff _).mpr (State.powerOn_memoryLaw b))
    (.of_eq rfl rfl)

/-! ## Every step -/

/-- An accepted word keeps the law; of the settings, the response timeout alone is in it. -/
theorem Accepted.memorySound {s t : State} (ht : Accepted s t) (h : s.MemorySound) : t.MemorySound := by
  cases ht with
  | timeout n hn => exact { h with timeout := hn }
  | quarantineLevel n => exact h.of_kept (.of_table rfl rfl rfl)
  | waitLimit c n => exact h.of_kept (s.setWaitLimit_memoryKept c n)
  | counter n => exact h.of_kept (s.clearCounter_memoryKept n)
  | openPort p ht => exact h.of_kept (s.openPort_memoryKept ht)
  | closePort p ht => exact h.of_kept (s.closePort_memoryKept ht)
  | resetPort p ht => exact h.of_kept (s.resetPort_memoryKept ht)
  | resetDownstream => exact h.resetDownstream
  | trafficReset => exact h.trafficReset
  | _ => exact h.of_kept (.of_eq rfl rfl)

/-- Every command keeps the law. -/
theorem Effect.memorySound {s t : State} {i : Instr} (ht : Effect s i t) (h : s.MemorySound) : t.MemorySound := by
  have same : ∀ {u : State}, u.mem = s.mem → u.issuing = s.issuing → u.MemorySound := fun hm hi =>
    h.of_kept (.of_eq hm hi)
  cases ht with
  | accepted _ ht => exact (ht.memorySound h).of_kept (.of_eq rfl rfl)
  | refused p packet kind reason cls =>
    have admitted : (s.updPort p (·.admitTag (readHostPacket packet).hostTag)).MemorySound := same rfl rfl
    exact admitted.of_kept (State.refuseRequest_memoryKept _ p _ reason cls)
  | taken p packet =>
    have admitted : (s.updPort p (·.admitTag (readHostPacket packet).hostTag)).MemorySound := same rfl rfl
    exact admitted.of_kept (State.takeRequest_memoryKept _ _)
  | portLinkUp p => exact h.of_kept (s.portLinkUp_memoryKept p)
  | portLinkLost p => exact h.of_kept (s.portLinkLost_memoryKept p)
  | responseSendEnd p => exact h.of_kept (.ite (.of_eq rfl rfl) (.of_eq rfl rfl))
  | settled => exact h.of_kept s.settleTenure_memoryKept
  | granted c kind e d hd =>
    obtain ⟨-, up, -⟩ := hd
    exact (h.of_kept s.settleTenure_memoryKept).grant (s.settleTenure_memoryKept.link.trans up) c kind e d
  | sendEnd => exact h.freeIssuing
  | memoryPacket _ packet hl => exact h.memoryPacket (eq_of_beq (Bool.and_eq_true_iff.mp hl).2) _
  | memTraining _ hl => exact h.memTraining hl
  | memLinkUp n => exact h.memoryLinkUp n.toNat
  | memLinkLost => exact h.memoryLinkLost
  | entryTimeout d => exact h.of_kept (s.timeOut_memoryKept d)
  | rstAssert => exact (s.atPowerOn_memorySound false).of_kept (.of_eq rfl rfl)
  | rstRelease b => exact s.atPowerOn_memorySound b
  | lastAddressBit a => exact h.of_kept (s.takeAddress_memoryKept a)
  | csRise =>
    have raised : (s.updPins fun k => { k with csLow := false }).MemorySound := same rfl rfl
    exact raised.of_kept (State.closeFrame_memoryKept _)
  | claimCapture g => exact h.of_kept (s.captureAt_memoryKept _)
  | claimCompletion g =>
    have completed : (s.completeClaim g).MemorySound := same rfl rfl
    exact completed.of_kept (State.captureAt_memoryKept _ _)
  | snapshotSlotRead c =>
    have freed : (s.updClass c fun k => { k with slot := none }).MemorySound := same rfl rfl
    exact freed.of_kept (State.captureAt_memoryKept _ _)
  | _ => exact same rfl rfl

/-- Settles O45: a base tick and every command keep the memory port sound. -/
theorem memoryLawKept : Obligations.MemoryLawKept := by
  intro s t hs hstep
  have h : s.MemorySound := s.memorySound_iff.mpr hs
  rw [← State.memorySound_iff]
  rcases effect_of_step hstep with ⟨-, rfl⟩ | ⟨i, rest, -, heffect⟩
  · exact h.of_kept s.tick_memoryKept
  · exact heffect.memorySound (h.of_kept (.of_eq rfl rfl))

/-! ## Timeouts (R135, R136) -/

theorem exec_entryTimeout {s : State} (hr : s.pins.rstLow = false) (d : DTag) :
    exec (.entryTimeout d) s = .next (s.timeOut d) := by
  show execEntryTimeout d s = _
  rw [execEntryTimeout, if_pos (by simp [State.awake, hr])]

/-- The answer, the count and the cause of an IN_FLIGHT entry's timeout, before the entry becomes LATE (R135). -/
def State.timedOut (s : State) (r : FlightRecord) : State :=
  { s.withCause 12 0 with
    mem := { s.mem with timeouts := counted s.mem.timeouts 1 }
    ports := s.ports.put r.port { s.ports.get r.port with
      queue := (s.ports.get r.port).queue ++ [⟨r.hostTag, .timeout⟩] } }

section timeout
variable {s : State} {d : DTag} {r : FlightRecord}

theorem State.timeOut_of_inFlight (he : s.mem.table.get d = .inFlight r (some 0)) :
    s.timeOut d = (s.timedOut r).makeLate d r := by
  rw [State.timeOut, he, State.timedOut, ← bump_eq]
  rfl

theorem State.timeOut_of_orphan (he : s.mem.table.get d = .orphan r (some 0)) : s.timeOut d = s.makeLate d r := by
  rw [State.timeOut, he]
  rfl

/-- An entry whose countdown has not ended does not time out (R131). -/
theorem State.timeOut_of_not_ended (he : (s.mem.table.get d).remaining ≠ some 0) : s.timeOut d = s := by
  unfold State.timeOut
  split
  · next hd => exact absurd (by rw [hd]; rfl) he
  · next hd => exact absurd (by rw [hd]; rfl) he
  · rfl

end timeout

/-- Settles O39: a timeout makes its entry LATE, with the check of the quarantine level. -/
theorem entriesTimeOut : Obligations.EntriesTimeOut := by
  intro d s hr late atLevel
  rw [exec_entryTimeout hr]
  refine ⟨fun r he => congrArg _ ?inFlight, fun r he => congrArg _ ?orphan,
    fun he => congrArg _ (State.timeOut_of_not_ended he)⟩
  case inFlight =>
    have notLate : ((s.timedOut r).mem.table.get d).isLate = false := congrArg InFlight.isLate he
    have level : (s.timedOut r).mem.lateCount = s.mem.lateCount := rfl
    rw [State.timeOut_of_inFlight he, State.makeLate_eq _ d r notLate, level]
    show (if atLevel then _ else _) = _
    split <;> rfl
  case orphan =>
    have notLate : (s.mem.table.get d).isLate = false := congrArg InFlight.isLate he
    rw [State.timeOut_of_orphan he, State.makeLate_eq s d r notLate]
    split <;> rfl

/-! ## A response meets the timeout of its entry (R140) -/

/-- A response to an IN_FLIGHT entry answers its request, FAILED where it does not match (R132, R133). -/
theorem State.answerInFlight_frame (s : State) (d : DTag) (r : FlightRecord) (k : MemPacket) :
    (s.answerInFlight d r k).pins = s.pins
      ∧ (s.answerInFlight d r k).ports =
        (s.answer r.port ⟨r.hostTag, if r.matched k = true then r.forward k else .failed⟩).ports := by
  unfold State.answerInFlight
  dsimp only
  split
  · exact ⟨rfl, rfl⟩
  · split <;> exact ⟨rfl, rfl⟩

section response
variable (s : State) (k : MemPacket)

theorem State.memoryResponse_pins : (s.memoryResponse k).pins = s.pins := by
  unfold State.memoryResponse
  split
  · exact (s.answerInFlight_frame ..).1
  all_goals rfl

/-- The tag of a response is FREE after it, whatever its entry was (R132 to R134). -/
theorem State.memoryResponse_frees : (s.memoryResponse k).mem.table.get k.tag = .free := by
  have freed : (s.freeTag k.tag).mem.table.get k.tag = .free := Table.get_put_self ..
  unfold State.memoryResponse
  split
  · rw [(s.answerInFlight_untouched ..).table]
    exact freed
  · exact freed
  · exact freed
  · next he => exact he

variable {s k}

/-- The answer that a response brings the request of its IN_FLIGHT entry (R132, R133). -/
theorem State.memoryResponse_answers {r : FlightRecord} {left : Option Nat}
    (he : s.mem.table.get k.tag = .inFlight r left) :
    ((s.memoryResponse k).ports.get r.port).queue = (s.ports.get r.port).queue
      ++ [⟨r.hostTag, if r.matched k = true then r.forward k else .failed⟩] := by
  obtain ⟨-, ports⟩ := s.answerInFlight_frame k.tag r k
  rw [State.memoryResponse, he]
  dsimp only
  rw [ports]
  exact congrArg PortRec.queue (Table.get_put_self ..)

end response

/-! What makes an entry LATE changes nothing beside the in-flight table and QUARANTINE. -/

theorem State.makeLate_pins (s : State) (d : DTag) (r : FlightRecord) : (s.makeLate d r).pins = s.pins := by
  rw [State.makeLate_frame]

theorem State.makeLate_ports (s : State) (d : DTag) (r : FlightRecord) : (s.makeLate d r).ports = s.ports := by
  rw [State.makeLate_frame]

theorem State.makeLate_mem (s : State) (d : DTag) (r : FlightRecord) :
    (s.makeLate d r).mem = { s.mem with table := s.mem.table.put d (.late r) } := by
  rw [State.makeLate_frame]

section meeting
variable {s : State} (hr : s.pins.rstLow = false)
include hr

/-- After a response no timeout of its entry occurs. -/
theorem exec_entryTimeout_of_responded (k : MemPacket) :
    exec (.entryTimeout k.tag) (s.memoryResponse k) = .next (s.memoryResponse k) := by
  rw [exec_entryTimeout (by rw [State.memoryResponse_pins, hr]), State.timeOut_of_not_ended]
  rw [State.memoryResponse_frees]
  nofun

variable (hl : s.mem.link = .up) {packet : List Byte} (hk : (readMemPacket packet).IsResponse)
include hl hk

theorem exec_memoryResponse_of_isResponse :
    exec (.memoryResponse packet) s = .next (s.memoryResponse (readMemPacket packet)) := by
  rw [exec_memoryResponse hr hl, State.memoryPacket_of_isResponse hk]

/-- A response whose entry has become LATE is discarded: its tag becomes FREE, and it is counted, with LATE (R134). -/
theorem exec_memoryResponse_of_madeLate (r : FlightRecord) :
    ∃ u, exec (.memoryResponse packet) (s.makeLate (readMemPacket packet).tag r) = .next u
      ∧ u.ports = s.ports
      ∧ u.mem = { s.mem with
          table := s.mem.table.put (readMemPacket packet).tag .free
          lateDiscarded := counted s.mem.lateDiscarded 1 }
      ∧ u.causeSet (.down .late) = true := by
  have late : (s.makeLate (readMemPacket packet).tag r).mem.table.get (readMemPacket packet).tag = .late r := by
    rw [State.makeLate_mem]
    exact Table.get_put_self ..
  refine ⟨_, (exec_memoryResponse_of_isResponse (by rwa [State.makeLate_pins]) (by rwa [State.makeLate_mem]) hk).trans
    (congrArg _ (State.memoryResponse_of_late late)), s.makeLate_ports _ r, ?_,
    State.causeSet_withCause (s.makeLate (readMemPacket packet).tag r) (.down .late)⟩
  simp only [State.makeLate_mem, Table.put_put]

end meeting

/-- Settles O60: the response frees the tag, and so the timeout finds nothing; the timeout makes the entry LATE, and so
the response is discarded. -/
theorem responseMeetsTimeout : Obligations.ResponseMeetsTimeout := by
  intro packet s r hr hl k matches' answers hk
  have matched : r.matched k = true ↔ matches' := r.matched_iff k
  have responds : exec (.memoryResponse packet) s = .next (s.memoryResponse k) :=
    exec_memoryResponse_of_isResponse hr hl hk
  have settled : exec (.entryTimeout k.tag) (s.memoryResponse k) = .next (s.memoryResponse k) :=
    exec_entryTimeout_of_responded hr k
  have freed : (s.memoryResponse k).mem.table.get k.tag = .free := s.memoryResponse_frees k
  have expires : exec (.entryTimeout k.tag) s = .next (s.timeOut k.tag) := exec_entryTimeout hr k.tag
  refine ⟨fun he => have answer := State.memoryResponse_answers he
    ⟨⟨_, responds, settled, freed, ?read, ?write, ?failed, ?error, ?mismatch⟩, ?timeoutFirst⟩,
    fun he => ⟨⟨_, responds, settled, freed, ?silent, ?uncounted⟩, ?orphanTimeoutFirst⟩⟩
  case read =>
    intro hm hread
    rwa [if_pos (matched.mpr hm), FlightRecord.forward, hread] at answer
  case write =>
    intro hm hwrite
    rwa [if_pos (matched.mpr hm), FlightRecord.forward, hwrite] at answer
  case failed =>
    intro hm
    rwa [if_neg (mt matched.mp hm)] at answer
  case error =>
    intro herror
    rw [State.memoryResponse_of_error he herror]
    exact ⟨State.causeSet_withCause _ (.down .memError), rfl⟩
  case mismatch =>
    intro hm herror
    rw [State.memoryResponse_of_mismatch he (mt matched.mp hm) herror]
    exact State.causeSet_withCause _ (.down .unexpected)
  case timeoutFirst =>
    rw [State.timeOut_of_inFlight he] at expires
    obtain ⟨u, discards, ports, mem, late⟩ := exec_memoryResponse_of_madeLate (s := s.timedOut r) hr hl hk r
    refine ⟨_, u, expires, discards, ?_, ?_, ?_, late, ?_⟩
    · show (u.ports.get r.port).queue = _
      rw [ports]
      exact congrArg PortRec.queue (Table.get_put_self ..)
    · rw [mem]
      exact Table.get_put_self ..
    · rw [mem]
      rfl
    · rw [mem]
      rfl
  case silent => rw [State.memoryResponse_of_orphan he]; rfl
  case uncounted => rw [State.memoryResponse_of_orphan he]; rfl
  case orphanTimeoutFirst =>
    rw [State.timeOut_of_orphan he] at expires
    obtain ⟨u, discards, ports, mem, late⟩ := exec_memoryResponse_of_madeLate hr hl hk r
    refine ⟨_, u, expires, discards, ?_, ports, late, ?_⟩
    · rw [mem]
      exact Table.get_put_self ..
    · rw [mem]

end Sys2Proof.Machine


/-! # Causes, claims and frames under every command (R145 to R150, R158, R163, R166)

A command that is no event of the management link raises causes at most and leaves the frame as it is; a word of a WRITE
frame may set the enables of a group as well, and passes the address on.  What is left are the events of RST#, of CS and
of the frame itself.  `LinkMove` says this once; the laws of the frame and of the claims, and what clears a flag, are
read off it. -/

namespace Sys2Proof

/-- The command is a word that a WRITE frame brings (R161, R162). -/
def Instr.isWord : Instr → Bool
  | .arrivalEvent .. | .portLinkUp _ | .portLinkLost _ | .upstreamSendBegin _ | .creditSendEnd _ | .responseSendEnd _
  | .grantDecision | .sendEnd | .memoryResponse _ | .memCredit _ | .memTraining | .memLinkUp _ | .memLinkLost
  | .entryTimeout _ | .waitClockExpiry _ | .epochBoundary | .midEpochPoint | .frameEdge | .rstAssert | .rstRelease _
  | .csFall | .opcodeByte _ | .lastAddressBit _ | .csRise | .claimCapture _ | .claimCompletion
  | .snapshotSlotRead _ => false
  | _ => true

end Sys2Proof

namespace Sys2Proof.Machine

/-! ## Sets of causes -/

/-- Every cause of the set `a` is in the set `b`. -/
def CausesWithin (a b : BitVec 8) : Prop := ∀ i, a.getLsbD i = true → b.getLsbD i = true

/-- The same in the words of the laws. -/
theorem causesWithin_iff (a b : BitVec 8) : CausesWithin a b ↔ a &&& ~~~b = 0 := by
  rw [BitVec.eq_of_getLsbD_eq_iff, CausesWithin]
  refine ⟨fun h i hi => ?_, fun h i ha => ?_⟩
  · have := h i
    simp only [BitVec.getLsbD_and, BitVec.getLsbD_not, hi, decide_true, Bool.true_and]
    cases ha : a.getLsbD i <;> simp_all
  · have hi : i < 8 := BitVec.lt_of_getLsbD ha
    simpa [ha, hi] using h i hi

theorem CausesWithin.refl (a : BitVec 8) : CausesWithin a a := fun _ => id

theorem CausesWithin.trans {a b c : BitVec 8} (h : CausesWithin a b) (g : CausesWithin b c) : CausesWithin a c :=
  fun i ha => g i (h i ha)

theorem CausesWithin.or {a b c : BitVec 8} (ha : CausesWithin a c) (hb : CausesWithin b c) : CausesWithin (a ||| b) c :=
  fun i h => by
    rw [BitVec.getLsbD_or, Bool.or_eq_true] at h
    exact h.elim (ha i) (hb i)

theorem causesWithin_or_left (a b : BitVec 8) : CausesWithin a (a ||| b) := fun i h => by
  rw [BitVec.getLsbD_or, h, Bool.true_or]

theorem causesWithin_and_left (a b : BitVec 8) : CausesWithin (a &&& b) a := fun i h => by
  rw [BitVec.getLsbD_and, Bool.and_eq_true] at h
  exact h.1

theorem causesWithin_and_right (a b : BitVec 8) : CausesWithin (a &&& b) b := fun i h => by
  rw [BitVec.getLsbD_and, Bool.and_eq_true] at h
  exact h.2

theorem causesWithin_zero (a : BitVec 8) : CausesWithin 0 a := fun i h => by simp at h

theorem CausesWithin.eq_zero {a : BitVec 8} (h : CausesWithin a 0) : a = 0 := by
  have := (causesWithin_iff a 0).mp h
  rwa [show ~~~(0 : BitVec 8) = BitVec.allOnes 8 from rfl, BitVec.and_allOnes] at this

/-- The bit of a cause is one of its group's (R146, R169). -/
theorem Cause.mask_within (k : Cause) : CausesWithin k.mask (groupMask k.group) := by
  rw [causesWithin_iff]
  cases k with
  | port p k => cases k <;> (revert p; decide)
  | cls c k => cases k <;> (revert c; decide)
  | down k => cases k <;> decide
  | device k => cases k <;> decide

/-! ## What raises causes and leaves the frame -/

/-- The flags of group `g` stand or are raised, and its claimed set gains nothing; its enables stay causes of the
group. -/
structure GroupRec.Grows (g : GroupId) (j k : GroupRec) : Prop where
  flags : CausesWithin j.flags k.flags
  causes : CausesWithin j.flags (groupMask g) → CausesWithin k.flags (groupMask g)
  enables : CausesWithin j.enables (groupMask g) → CausesWithin k.enables (groupMask g)
  claimed : CausesWithin k.claimed j.claimed

theorem GroupRec.Grows.refl (g : GroupId) (k : GroupRec) : k.Grows g k := ⟨.refl _, id, id, .refl _⟩

theorem GroupRec.Grows.trans {g : GroupId} {i j k : GroupRec} (h : i.Grows g j) (h' : j.Grows g k) : i.Grows g k :=
  ⟨h.flags.trans h'.flags, h'.causes ∘ h.causes, h'.enables ∘ h.enables, h'.claimed.trans h.claimed⟩

theorem GroupRec.grows_raise {g : GroupId} (k : GroupRec) {m : BitVec 8} (hm : CausesWithin m (groupMask g)) :
    k.Grows g (k.raise m) :=
  ⟨causesWithin_or_left _ _, fun h => h.or hm, id, causesWithin_and_left _ _⟩

/-- Of the notification block and the management link, causes are raised and enables set at most. -/
structure NoticeKept (s t : State) : Prop where
  pins : t.pins = { s.pins with frameSample := t.pins.frameSample }
  mgmt : t.mgmt = s.mgmt
  groups : ∀ g, (s.groups.get g).Grows g (t.groups.get g)

namespace NoticeKept
variable {s t u : State}

theorem csLow (h : NoticeKept s t) : t.pins.csLow = s.pins.csLow := by rw [h.pins]

theorem rstLow (h : NoticeKept s t) : t.pins.rstLow = s.pins.rstLow := by rw [h.pins]

theorem trans (h : NoticeKept s t) (g : NoticeKept t u) : NoticeKept s u where
  pins := by rw [g.pins, h.pins]
  mgmt := g.mgmt.trans h.mgmt
  groups x := (h.groups x).trans (g.groups x)

theorem ite {p : Prop} [Decidable p] (ht : NoticeKept s t) (hu : NoticeKept s u) :
    NoticeKept s (if p then t else u) := by
  split
  · exact ht
  · exact hu

theorem of_eq (hp : t.pins = s.pins) (hm : t.mgmt = s.mgmt) (hg : t.groups = s.groups) : NoticeKept s t :=
  ⟨by rw [hp], hm, fun g => by rw [hg]; exact .refl g _⟩

theorem refl (s : State) : NoticeKept s s := .of_eq rfl rfl rfl

/-- One group is changed, and grows. -/
theorem put {g : GroupId} {k : GroupRec} (h : (s.groups.get g).Grows g k) :
    NoticeKept s { s with groups := s.groups.put g k } :=
  ⟨rfl, rfl, fun x => by
    by_cases hx : g = x
    · subst hx
      rw [Table.get_put_self]
      exact h
    · rw [Table.get_put_of_ne _ _ hx]
      exact .refl x _⟩

theorem raise (s : State) (k : Cause) : NoticeKept s (s.raise k) := put (GroupRec.grows_raise _ k.mask_within)

/-- The cause `k` is raised, and elsewhere something changes that is no part of the notification block or the link. -/
theorem of_raise (k : Cause) (hp : t.pins = s.pins) (hm : t.mgmt = s.mgmt) (hg : t.groups = (s.raise k).groups) :
    NoticeKept s t := (raise s k).trans (of_eq hp hm hg)

end NoticeKept

section kept
variable (s : State)

/-! Host ports. -/

theorem State.portLinkUp_noticeKept (p : Port) : NoticeKept s (s.portLinkUp p) := by
  have up : NoticeKept s (s.updPort p fun k => { k with linkUp := true, retrain := false }) := .of_eq rfl rfl rfl
  unfold State.portLinkUp
  cases (s.ports.get p).state with
  | waiting => exact .of_raise (.port p .opened) rfl rfl rfl
  | closed => exact up
  | disabled | opened | closing => exact .refl s

theorem State.portLinkLost_noticeKept (p : Port) : NoticeKept s (s.portLinkLost p) :=
  have lost : NoticeKept s (((s.cutPort p).updPort p fun k =>
      { k with linkUp := false, state := k.state.afterLoss }).raise (.port p .linkLost)) :=
    .of_raise (.port p .linkLost) rfl rfl rfl
  .ite (lost.trans (.raise _ _)) lost

theorem State.responseSent_noticeKept (p : Port) : NoticeKept s (s.responseSent p) :=
  .ite (.of_raise (.port p .closed) rfl rfl rfl) (.of_eq rfl rfl rfl)

theorem State.openPort_noticeKept {p : Port} {t : State} (h : s.openPort p = .ok t) : NoticeKept s t := by
  unfold State.openPort at h
  split at h
  · cases h; exact .of_eq rfl rfl rfl
  · cases h; exact .ite (.of_raise (.port p .opened) rfl rfl rfl) (.of_eq rfl rfl rfl)
  · cases h

theorem State.closePort_noticeKept {p : Port} {t : State} (h : s.closePort p = .ok t) : NoticeKept s t := by
  unfold State.closePort at h
  split at h
  · cases h; exact .ite (.of_raise (.port p .closed) rfl rfl rfl) (.of_eq rfl rfl rfl)
  · cases h; exact .of_eq rfl rfl rfl
  · cases h

theorem State.resetPort_noticeKept {p : Port} {t : State} (h : s.resetPort p = .ok t) : NoticeKept s t := by
  unfold State.resetPort at h
  split at h
  · cases h
  · cases h; exact .ite (.of_raise (.port p .closed) rfl rfl rfl) (.of_eq rfl rfl rfl)

theorem State.refuseInClass_noticeKept (reason : RefusalReason) (c : ClassId) :
    NoticeKept s (s.refuseInClass reason c) := by
  cases reason with
  | classFull => exact .of_raise (.cls c .full) rfl rfl rfl
  | malformed | range | denied | classOff => exact .of_eq rfl rfl rfl

theorem State.refuseRequest_noticeKept (p : Port) (tag : HostTag) (reason : RefusalReason) (cls : Option ClassId) :
    NoticeKept s (s.refuseRequest p tag reason cls) := by
  cases cls with
  | none => exact .of_raise (.port p .refusal) rfl rfl rfl
  | some c =>
    refine .trans (t := (s.updPort p fun k => ({ k with requestsRefused := bump k.requestsRefused 1 }.enqueue
      ⟨tag, .refused reason⟩).returnCredits 1).raise (.port p .refusal)) ?_ (State.refuseInClass_noticeKept _ reason c)
    exact .of_raise (.port p .refusal) rfl rfl rfl

theorem State.arrive_noticeKept (p : Port) (k : HostPacket) : NoticeKept s (s.arrive p k) := by
  have admitted : NoticeKept s (s.updPort p (·.admitTag k.hostTag)) := .of_eq rfl rfl rfl
  unfold State.arrive
  split
  · exact .of_raise (.port p .fault) rfl rfl rfl
  · dsimp only
    split
    · exact admitted.trans (State.refuseRequest_noticeKept ..)
    · rw [State.takeRequest_eq]
      exact .of_eq rfl rfl rfl

/-! The arbiter and the memory port. -/

theorem State.grant_noticeKept (c : ClassId) (kind : GrantKind) (e : StoreEntry) (d : DTag) :
    NoticeKept s (s.grant c kind e d) := by
  have cause : NoticeKept s (s.withGrantCause c kind e.length) :=
    .ite (.raise s (.cls c .escape)) (.ite (.raise s (.cls c .spent)) (.refl s))
  rw [State.grant_eq]
  exact ⟨rfl, rfl, cause.groups⟩

theorem State.settleTenure_noticeKept : NoticeKept s s.settleTenure := by
  rw [State.settleTenure_frame]
  exact .of_eq rfl rfl rfl

theorem State.decide_noticeKept : NoticeKept s s.decide := by
  unfold State.decide
  split
  · split
    · exact s.settleTenure_noticeKept.trans (State.grant_noticeKept ..)
    · exact s.settleTenure_noticeKept
  · exact .refl s

theorem State.freeIssuing_noticeKept : NoticeKept s s.freeIssuing := by
  unfold State.freeIssuing
  split <;> exact .of_eq rfl rfl rfl

theorem State.clearDownstream_noticeKept : NoticeKept s s.clearDownstream := by
  rw [State.clearDownstream_frame]
  exact .of_eq rfl rfl rfl

theorem State.memoryResponse_noticeKept (k : MemPacket) : NoticeKept s (s.memoryResponse k) := by
  unfold State.memoryResponse
  cases s.mem.table.get k.tag with
  | inFlight r =>
    exact .ite (.of_eq rfl rfl rfl) (.ite (.of_raise (.down .memError) rfl rfl rfl)
      (.of_raise (.down .unexpected) rfl rfl rfl))
  | orphan => exact .of_eq rfl rfl rfl
  | late => exact .of_raise (.down .late) rfl rfl rfl
  | free => exact .of_raise (.down .unexpected) rfl rfl rfl

theorem State.memoryPacket_noticeKept (k : MemPacket) : NoticeKept s (s.memoryPacket k) := by
  unfold State.memoryPacket
  split
  · exact s.memoryResponse_noticeKept k
  · exact s.memoryResponse_noticeKept k
  · exact s.memoryResponse_noticeKept k
  · exact .ite (.of_raise (.down .creditFault) rfl rfl rfl) (.of_eq rfl rfl rfl)
  · exact .of_raise (.down .unexpected) rfl rfl rfl

theorem State.memoryLinkUp_noticeKept (n : Nat) : NoticeKept s (s.memoryLinkUp n) :=
  .ite (.of_raise (.down .linkUp) rfl rfl rfl) (.of_raise (.down .creditFault) rfl rfl rfl)

theorem State.makeLate_noticeKept (d : DTag) (r : FlightRecord) : NoticeKept s (s.makeLate d r) :=
  .ite (.of_raise (.down .quarantine) rfl rfl rfl) (.of_eq rfl rfl rfl)

theorem State.timeOut_noticeKept (d : DTag) : NoticeKept s (s.timeOut d) := by
  unfold State.timeOut
  split
  · refine .trans ?_ (State.makeLate_noticeKept ..)
    exact .of_raise (.down .timeout) rfl rfl rfl
  · exact s.makeLate_noticeKept ..
  · exact .refl s

/-! Timers, classes and counters. -/

theorem State.frameEdge_noticeKept : NoticeKept s s.frameEdge :=
  have sampled : NoticeKept s ((s.updPins fun k => { k with frameSample := some true }).updClasses fun _ =>
    ClassRec.atFrame) := ⟨rfl, rfl, fun g => .refl g _⟩
  sampled.trans (.raise _ _)

theorem State.setWaitLimit_noticeKept (c : ClassId) (n : Nat) : NoticeKept s (s.setWaitLimit c n) :=
  .ite (.of_eq rfl rfl rfl) (.ite (.of_eq rfl rfl rfl) (.of_eq rfl rfl rfl))

theorem State.clearCounter_noticeKept (n : CounterId) : NoticeKept s (s.clearCounter n) := by
  cases n <;> exact .of_eq rfl rfl rfl

theorem State.trafficReset_noticeKept : NoticeKept s s.trafficReset := by
  have traffic := s.resetTraffic_same (Config.storePartFirst s.freeIndex)
  exact .of_eq (congrArg State.pins traffic :) (congrArg State.mgmt traffic :) (congrArg State.groups traffic :)

/-- An accepted word raises causes and sets enables at most: those of an enable word are causes of its group (R147). -/
theorem Accepted.noticeKept {s t : State} (h : Accepted s t) : NoticeKept s t := by
  cases h with
  | enables g w => exact .put ⟨.refl _, id, fun _ => causesWithin_and_right _ _, .refl _⟩
  | waitLimit c n => exact s.setWaitLimit_noticeKept c n
  | counter n => exact s.clearCounter_noticeKept n
  | openPort p h => exact s.openPort_noticeKept h
  | closePort p h => exact s.closePort_noticeKept h
  | resetPort p h => exact s.resetPort_noticeKept h
  | resetDownstream => exact s.clearDownstream_noticeKept.trans (.of_eq rfl rfl rfl)
  | trafficReset => exact s.trafficReset_noticeKept
  | _ => exact .of_eq rfl rfl rfl

end kept

/-! ## Every command -/

/-- The link `n` is the link `m` with a word taken: the address may have moved on and the first refusal be noted. -/
def MgmtLink.PassedBy (m n : MgmtLink) : Prop :=
  n = { m with address := n.address, failure := n.failure, lastReject := n.lastReject }

theorem MgmtLink.passedBy_advance (m : MgmtLink) : m.PassedBy m.advance := by
  unfold MgmtLink.PassedBy MgmtLink.advance
  split <;> rfl

/-- What a command makes of the causes and the frame. -/
inductive LinkMove (s : State) : Instr → State → Prop
  | event (i : Instr) {t : State} (h : NoticeKept s t) : LinkMove s i t
  | word (i : Instr) {u : State} {n : MgmtLink} (hp : s.mgmt.phase = .writing) (h : NoticeKept s u)
      (hn : s.mgmt.PassedBy n) : LinkMove s i { u with mgmt := n }
  | rstAssert : LinkMove s .rstAssert ((s.atPowerOn false).updPins fun k => { k with rstLow := true })
  | rstRelease (b : Bool) : LinkMove s (.rstRelease b) (s.atPowerOn b)
  | csFallAsleep (hr : s.awake = false) : LinkMove s .csFall (s.updPins fun k => { k with csLow := true })
  | csFall (hc : s.pins.csLow = false) : LinkMove s .csFall (s.updPins fun k => { k with csLow := true }).openFrame
  | opcodeByte (b : Byte) (hp : s.mgmt.phase = .opcode) : LinkMove s (.opcodeByte b) (s.updMgmt (·.takeOpcode b))
  | lastAddressBit (a : Addr) (hp : s.mgmt.phase = .address) : LinkMove s (.lastAddressBit a) (s.takeAddress a)
  | csRiseAsleep (hr : s.awake = false) : LinkMove s .csRise (s.updPins fun k => { k with csLow := false })
  | csRise : LinkMove s .csRise (s.updPins fun k => { k with csLow := false }).closeFrame
  | claimCapture (g : GroupId) (hr : s.readingFreely = true) :
    LinkMove s (.claimCapture g) (s.captureAt (beforeClaim g + 1))
  | claimCompletion (g : GroupId) (hp : s.mgmt.phase = .reading) (hg : s.mgmt.claiming = some g) :
    LinkMove s .claimCompletion ((s.completeClaim g).captureAt (s.mgmt.address + 1))
  | snapshotSlotRead (c : ClassId) (hr : s.readingFreely = true) :
    LinkMove s (.snapshotSlotRead c)
      ((s.updClass c fun k => { k with slot := none }).captureAt (slotLast s.mgmt.readStart c + 1))

namespace LinkMove
variable {s t u : State} {i : Instr}

/-- A command with a guard: its move where the guard holds, nothing where it does not. -/
theorem of_guard {b : Bool} (hb : b = true → LinkMove s i u)
    (h : Host.Outcome.next (if b = true then u else s) = (.next t : Host.Outcome State Fault Refusal)) :
    LinkMove s i t := by
  injection h with h
  subst h
  split
  · next h => exact hb h
  · exact .event i (.refl s)

/-- An event with a guard that leaves the frame as it is. -/
theorem of_event {b : Bool}
    (h : Host.Outcome.next (if b = true then u else s) = (.next t : Host.Outcome State Fault Refusal))
    (hu : NoticeKept s u) : LinkMove s i t := of_guard (fun _ => .event i hu) h

end LinkMove

/-- Outside a WRITE frame no word is taken (R161). -/
theorem State.writeWord_of_not_writing {s : State} (hp : s.mgmt.phase ≠ .writing) (w : MgmtWord)
    (own : State → Except Reject State) : s.writeWord w own = s :=
  if_neg fun h => hp (by
    simp only [State.writingAt, Bool.and_eq_true, beq_iff_eq] at h
    exact h.1.2)

theorem exec_word_of_not_writing {s : State} {i : Instr} (hi : i.isWord = true) (hp : s.mgmt.phase ≠ .writing) :
    exec i s = .next s := by
  cases i with
  | wordWrite w =>
    refine congrArg Host.Outcome.next (if_neg fun h => hp ?_)
    exact eq_of_beq (Bool.and_eq_true_iff.mp h).2
  | arrivalEvent | portLinkUp | portLinkLost | upstreamSendBegin | creditSendEnd | responseSendEnd
  | grantDecision | sendEnd | memoryResponse | memCredit | memTraining | memLinkUp | memLinkLost
  | entryTimeout | waitClockExpiry | epochBoundary | midEpochPoint | frameEdge | rstAssert | rstRelease
  | csFall | opcodeByte | lastAddressBit | csRise | claimCapture | claimCompletion | snapshotSlotRead => cases hi
  | _ => exact congrArg Host.Outcome.next (State.writeWord_of_not_writing hp _ _)

/-- A word of a WRITE frame, accepted or refused (R162, R163). -/
theorem LinkMove.of_word {s t : State} {i : Instr} (hi : i.isWord = true) (h : exec i s = .next t) :
    LinkMove s i t := by
  by_cases hp : s.mgmt.phase = .writing
  · cases effect_of_exec h with
    | nothing => exact .event i (.refl s)
    | memoryPacket => exact .event i (s.memoryPacket_noticeKept _)
    | accepted _ hu => exact .word i hp hu.noticeKept (hu.noticeKept.mgmt ▸ MgmtLink.passedBy_advance _)
    | rejected _ r =>
      rw [← State.refuseWord_eq]
      refine .word i (u := s.raise (.device .reject)) hp (.raise s _) ?_
      have refused : s.mgmt.PassedBy (s.refuseWord r).mgmt := by
        unfold State.refuseWord MgmtLink.PassedBy
        rw [State.updMgmt_mgmt]
        split <;> rfl
      have advanced := (s.refuseWord r).mgmt.passedBy_advance
      unfold MgmtLink.PassedBy at *
      rw [advanced, refused]
    | _ => cases hi
  · rw [exec_word_of_not_writing hi hp] at h
    cases h
    exact .event i (.refl s)

/-- What a command can do to the causes and the frame. -/
theorem linkMove_of_exec {i : Instr} {s t : State} (h : exec i s = .next t) : LinkMove s i t := by
  cases i with
  | arrivalEvent p packet => exact .of_event h (s.arrive_noticeKept p _)
  | portLinkUp p => exact .of_event h (s.portLinkUp_noticeKept p)
  | portLinkLost p => exact .of_event h (s.portLinkLost_noticeKept p)
  | upstreamSendBegin p => exact .of_event h (.of_eq rfl rfl rfl)
  | creditSendEnd p =>
    cases h
    refine .event _ ?_
    split
    · exact .ite (.of_eq rfl rfl rfl) (.refl s)
    · exact .refl s
  | responseSendEnd p =>
    cases h
    refine .event _ ?_
    split
    · exact .ite (s.responseSent_noticeKept p) (.refl s)
    · exact .refl s
  | grantDecision => cases h; exact .event _ s.decide_noticeKept
  | sendEnd => exact .of_event h s.freeIssuing_noticeKept
  | memoryResponse packet | memCredit packet => exact .of_event h (s.memoryPacket_noticeKept _)
  | memTraining => exact .of_event h (.of_eq rfl rfl rfl)
  | memLinkUp n => exact .of_event h (s.memoryLinkUp_noticeKept _)
  | memLinkLost =>
    refine .of_event h (s.clearDownstream_noticeKept.trans ?_)
    exact .of_raise (.down .linkLost) rfl rfl rfl
  | entryTimeout d => exact .of_event h (s.timeOut_noticeKept d)
  | waitClockExpiry c => exact .of_event h (.ite (.of_raise (.cls c .starved) rfl rfl rfl) (.of_eq rfl rfl rfl))
  | epochBoundary => exact .of_event h (.of_raise (.device .epoch) rfl rfl rfl)
  | midEpochPoint => exact .of_event h (.of_eq rfl rfl rfl)
  | frameEdge => exact .of_event h s.frameEdge_noticeKept
  | rstAssert => cases h; exact .rstAssert
  | rstRelease b => exact .of_guard (fun _ => .rstRelease b) h
  | csFall =>
    cases h
    split
    · exact .event _ (.refl s)
    · next hc =>
      split
      · exact .csFall (Bool.eq_false_iff.mpr hc)
      · next hr => exact .csFallAsleep (Bool.eq_false_iff.mpr hr)
  | opcodeByte b => exact .of_guard (fun hb => .opcodeByte b (eq_of_beq (Bool.and_eq_true_iff.mp hb).2)) h
  | lastAddressBit a => exact .of_guard (fun hb => .lastAddressBit a (eq_of_beq (Bool.and_eq_true_iff.mp hb).2)) h
  | csRise =>
    refine .of_guard (fun _ => ?_) h
    split
    · exact .csRise
    · next hr => exact .csRiseAsleep (Bool.eq_false_iff.mpr hr)
  | claimCapture g => exact .of_guard (fun hb => .claimCapture g (Bool.and_eq_true_iff.mp hb).1) h
  | claimCompletion =>
    refine .of_guard (fun hb => ?_) h
    split
    · next g hg => exact .claimCompletion g (eq_of_beq (Bool.and_eq_true_iff.mp hb).2) hg
    · exact .event _ (.refl s)
  | snapshotSlotRead c => exact .of_guard (fun hb => .snapshotSlotRead c (Bool.and_eq_true_iff.mp hb).1) h
  | _ => exact .of_word rfl h

end Sys2Proof.Machine


/-! # The laws of the frame, of the claims and of RST# (R149, R158, R163, R166) -/

namespace Sys2Proof.Machine

/-! ## The laws as conditions on the link and on each group -/

/-- The kind of the frame is none until its opcode has named it (R158). -/
def MgmtLink.KindNamed (m : MgmtLink) : Prop :=
  match m.phase with
  | .address => m.kind ≠ none
  | .reading => m.kind = some .read
  | .writing => m.kind = some .write
  | _ => m.kind = none

/-- The law of the frame in progress, at a level of CS. -/
structure MgmtLink.Framed (m : MgmtLink) (csLow : Bool) : Prop where
  closed : csLow = false → m.phase = .idle
  kind : m.KindNamed
  failure : m.failure ≠ none → m.phase = .writing
  claiming : ∀ g : GroupId, m.claiming = some g ↔ (m.phase = .reading ∧ m.address = (MgmtWord.claim g).addr)

/-- The law of group `g` while the claim word of `claiming` is shifted out, if one is. -/
structure GroupRec.Sound (k : GroupRec) (g : GroupId) (claiming : Option GroupId) : Prop where
  flags : CausesWithin k.flags (groupMask g)
  enables : CausesWithin k.enables (groupMask g)
  claimed : CausesWithin k.claimed k.flags
  unclaimed : k.claimed ≠ 0 → claiming = some g

/-- The laws of the frame and of the claims. -/
structure State.NoticeSound (s : State) : Prop where
  frame : s.mgmt.Framed s.pins.csLow
  groups : ∀ g, (s.groups.get g).Sound g s.mgmt.claiming

theorem State.noticeSound_iff (s : State) : s.NoticeSound ↔ s.FrameLaw ∧ s.ClaimLaw := by
  simp only [State.ClaimLaw, ← causesWithin_iff]
  refine ⟨fun ⟨⟨closed, kind, failure, claiming⟩, groups⟩ => ⟨⟨closed, kind, failure, claiming⟩, fun g => ?_⟩,
    fun ⟨⟨closed, kind, failure, claiming⟩, groups⟩ => ⟨⟨closed, kind, failure, claiming⟩, fun g => ?_⟩⟩
  · obtain ⟨flags, enables, claimed, unclaimed⟩ := groups g
    exact ⟨flags, enables, claimed, unclaimed⟩
  · obtain ⟨flags, enables, claimed, unclaimed⟩ := groups g
    exact ⟨flags, enables, claimed, unclaimed⟩

namespace GroupRec.Sound
variable {j k : GroupRec} {g : GroupId} {claiming : Option GroupId}

theorem grows (h : j.Sound g claiming) (hg : j.Grows g k) : k.Sound g claiming where
  flags := hg.causes h.flags
  enables := hg.enables h.enables
  claimed := hg.claimed.trans (h.claimed.trans hg.flags)
  unclaimed hk := h.unclaimed fun hj => hk (hj ▸ hg.claimed).eq_zero

/-- A group that no claim word is shifted out of has an empty claimed set. -/
theorem claimed_eq_zero (h : k.Sound g claiming) (hc : claiming ≠ some g) : k.claimed = 0 :=
  by_contra fun hk => hc (h.unclaimed hk)

/-- A group that no claim word is shifted out of is sound whichever is. -/
theorem of_unclaimed (h : k.Sound g claiming) (hc : claiming ≠ some g) (c : Option GroupId) : k.Sound g c :=
  { h with unclaimed := fun hk => absurd (h.claimed_eq_zero hc) hk }

/-- The capture of the group's claim word (R149). -/
theorem captured (h : k.Sound g claiming) : ({ k with claimed := k.flags } : GroupRec).Sound g (some g) :=
  { h with claimed := .refl _, unclaimed := fun _ => rfl }

/-- The end of a claim, with some flags cleared or none (R149, R150). -/
theorem released (h : k.Sound g claiming) {flags : BitVec 8} (hf : CausesWithin flags k.flags) (c : Option GroupId) :
    ({ k with flags := flags, claimed := 0 } : GroupRec).Sound g c :=
  { h with flags := hf.trans h.flags, claimed := causesWithin_zero _, unclaimed := fun hk => absurd rfl hk }

end GroupRec.Sound

/-- The groups are sound where the one that was written is, and every other was and stands. -/
theorem soundGroups_put {groups : Table 14 GroupRec} {g : GroupId} {k : GroupRec} {claiming : Option GroupId}
    (hk : k.Sound g claiming) (ho : ∀ x, g ≠ x → (groups.get x).Sound x claiming) (x : GroupId) :
    ((groups.put g k).get x).Sound x claiming := by
  by_cases hx : g = x
  · subst hx
    rw [Table.get_put_self]
    exact hk
  · rw [Table.get_put_of_ne _ _ hx]
    exact ho x hx

theorem GroupRec.powerOn_sound (g : GroupId) (claiming : Option GroupId) : GroupRec.powerOn.Sound g claiming :=
  ⟨causesWithin_zero _, causesWithin_zero _, causesWithin_zero _, fun h => absurd rfl h⟩

theorem MgmtLink.powerOn_framed (csLow : Bool) : MgmtLink.powerOn.Framed csLow :=
  ⟨fun _ => rfl, rfl, fun h => absurd rfl h, fun _ => ⟨nofun, fun h => FramePhase.noConfusion h.1⟩⟩

namespace MgmtLink.Framed
variable {m n : MgmtLink} {csLow : Bool}

/-- Outside READING no claim word is being shifted out. -/
theorem not_claiming (h : m.Framed csLow) (hp : m.phase ≠ .reading) : m.claiming = none :=
  Option.eq_none_iff_forall_ne_some.mpr fun g hg => hp ((h.claiming g).mp hg).1

theorem not_failed (h : m.Framed csLow) (hp : m.phase ≠ .writing) : m.failure = none :=
  by_contra fun hf => hp (h.failure hf)

/-- A frame is open, so CS is low. -/
theorem csLow_of_open (h : m.Framed csLow) (hp : m.phase ≠ .idle) : csLow = true := by
  cases csLow
  · exact absurd (h.closed rfl) hp
  · rfl

/-- A link outside READING: no claim word is being shifted out. -/
theorem of_not_reading (hp : n.phase ≠ .reading) (hc : n.claiming = none) (closed : csLow = false → n.phase = .idle)
    (kind : n.KindNamed) (failure : n.failure ≠ none → n.phase = .writing) : n.Framed csLow :=
  ⟨closed, kind, failure, fun g => by rw [hc]; exact ⟨nofun, fun h => absurd h.1 hp⟩⟩

/-- A link in READING: a claim word is being shifted out exactly where the address is its own. -/
theorem of_reading (hp : n.phase = .reading) (hk : n.kind = some .read) (hf : n.failure = none)
    (hc : ∀ g, n.claiming = some g ↔ n.address = (MgmtWord.claim g).addr) : n.Framed true :=
  ⟨nofun, by rwa [MgmtLink.KindNamed, hp], fun h => absurd hf h, fun g => (hc g).trans (and_iff_right hp).symm⟩

end MgmtLink.Framed

theorem State.NoticeSound.of_kept {s t : State} (h : s.NoticeSound) (g : NoticeKept s t) : t.NoticeSound where
  frame := by rw [g.mgmt, g.csLow]; exact h.frame
  groups x := by rw [g.mgmt]; exact (h.groups x).grows (g.groups x)

/-! ## READ frames -/

/-- A READ frame between two words: none is being claimed. -/
structure State.BetweenWords (s : State) : Prop where
  csLow : s.pins.csLow = true
  phase : s.mgmt.phase = .reading
  kind : s.mgmt.kind = some .read
  failure : s.mgmt.failure = none
  claiming : s.mgmt.claiming = none
  groups : ∀ g, (s.groups.get g).Sound g none

/-- In READING, a READ frame in which no claim word is shifted out stands between two words. -/
theorem State.NoticeSound.between {s : State} (h : s.NoticeSound) (hp : s.mgmt.phase = .reading)
    (hc : s.mgmt.claiming = none) : s.BetweenWords where
  csLow := h.frame.csLow_of_open (by rw [hp]; nofun)
  phase := hp
  kind := by have := h.frame.kind; rwa [MgmtLink.KindNamed, hp] at this
  failure := h.frame.not_failed (by rw [hp]; nofun)
  claiming := hc
  groups g := hc ▸ h.groups g

/-- The completion of a claim leaves the frame between two words (R149). -/
theorem State.NoticeSound.completed {s : State} (h : s.NoticeSound) {g : GroupId} (hp : s.mgmt.phase = .reading)
    (hc : s.mgmt.claiming = some g) : (s.completeClaim g).BetweenWords where
  csLow := h.frame.csLow_of_open (by rw [hp]; nofun)
  phase := hp
  kind := by have := h.frame.kind; rwa [MgmtLink.KindNamed, hp] at this
  failure := h.frame.not_failed (by rw [hp]; nofun)
  claiming := rfl
  groups := soundGroups_put ((h.groups g).released (causesWithin_and_left _ _) _) fun x hx =>
    (h.groups x).of_unclaimed (by rw [hc]; exact fun he => hx (Option.some.inj he)) _

/-- A claim word stands at an address of its own (R169). -/
theorem claim_addr_inj {g g' : GroupId} (h : (MgmtWord.claim g).addr = (MgmtWord.claim g').addr) : g = g' := by
  have := decodeAddr_addr (.claim g)
  rw [h, decodeAddr_addr] at this
  cases this
  rfl

/-- A READ frame that goes on to a word is sound there: at a claim word, and there alone, the claim begins. -/
theorem State.BetweenWords.captureAt {s : State} (h : s.BetweenWords) (a : Addr) : (s.captureAt a).NoticeSound := by
  by_cases hg : ∃ g, decodeAddr a = some (.claim g)
  · obtain ⟨g, hg⟩ := hg
    have ha := decodeAddr_claim hg
    have claims : ∀ g' : GroupId, some g = some g' ↔ a = (MgmtWord.claim g').addr := fun g' =>
      ⟨fun hx => by cases hx; exact ha, fun hx => congrArg some (claim_addr_inj (ha.symm.trans hx))⟩
    rw [State.captureAt_claim s a g hg]
    refine ⟨?_, soundGroups_put (h.groups g).captured fun x _ => (h.groups x).of_unclaimed nofun _⟩
    rw [h.csLow]
    exact .of_reading h.phase h.kind h.failure claims
  · have claims : ∀ g : GroupId, s.mgmt.claiming = some g ↔ a = (MgmtWord.claim g).addr := fun g => by
      rw [h.claiming]
      exact ⟨nofun, fun hx => absurd ⟨g, hx ▸ decodeAddr_addr _⟩ hg⟩
    rw [State.captureAt_plain s a (not_exists.mp hg)]
    refine ⟨?_, fun x => (h.groups x).of_unclaimed nofun _⟩
    rw [h.csLow]
    exact .of_reading h.phase h.kind h.failure claims

theorem State.readingFreely_iff (s : State) :
    s.readingFreely = true ↔ s.pins.rstLow = false ∧ s.mgmt.phase = .reading ∧ s.mgmt.claiming = none := by
  simp only [State.readingFreely, State.awake, Bool.and_eq_true, Bool.not_eq_true', beq_iff_eq,
    Option.isNone_iff_eq_none, and_assoc]

/-- A READ frame at a base tick: it reads on where it stands between two words. -/
theorem State.NoticeSound.readTick {s : State} (h : s.NoticeSound) : s.readTick.NoticeSound := by
  unfold State.readTick
  split
  · next hb =>
    obtain ⟨hw, he⟩ := Bool.and_eq_true_iff.mp hb
    have hc : s.mgmt.claiming = none := by
      by_contra hc
      exact s.wordEndEvent_isNone.mp he _ (.inl ⟨rfl, hc⟩)
    exact (h.between (s.wordEnds_iff.mp hw).1 hc).captureAt _
  · exact h

/-! ## Frames that open and close -/

/-- The end of a frame in one record: the claim in progress is abandoned and a WRITE frame settles its result (R158,
R150, R163). -/
theorem State.closeFrame_eq (s : State) :
    s.closeFrame = { s with
      groups := s.closeFrame.groups
      mgmt := { s.mgmt with
        phase := .idle, kind := none, claiming := none
        result := if s.mgmt.kind = some .write then s.mgmt.failure.map Prod.snd else s.mgmt.result
        failure := if s.mgmt.kind = some .write then none else s.mgmt.failure } } := by
  have settled : ∀ m : MgmtLink, m.settle = { m with
      result := if m.kind = some .write then m.failure.map Prod.snd else m.result
      failure := if m.kind = some .write then none else m.failure } := by
    intro m
    unfold MgmtLink.settle
    split
    · next hk => rw [if_pos hk, if_pos hk]
    · next hk => rw [if_neg hk, if_neg hk]
  unfold State.closeFrame State.abandonClaim
  cases hc : s.mgmt.claiming with
  | none => simp only [State.updMgmt, settled, ← hc]
  | some g => simp only [State.updMgmt, settled]

/-- An abandoned claim keeps every flag (R150). -/
theorem State.closeFrame_group (s : State) (g : GroupId) :
    s.closeFrame.groups.get g =
      if s.mgmt.claiming = some g then { s.groups.get g with claimed := 0 } else s.groups.get g := by
  unfold State.closeFrame State.abandonClaim
  cases hc : s.mgmt.claiming with
  | none => rw [if_neg nofun]; rfl
  | some g' =>
    simp only [State.updMgmt_groups, Table.get_put, Option.some.injEq]
    split
    · next h => rw [h]
    · rfl

theorem State.NoticeSound.closeFrame {s : State} (h : s.NoticeSound) :
    (s.updPins fun k => { k with csLow := false }).closeFrame.NoticeSound := by
  have failure : s.mgmt.kind ≠ some .write → s.mgmt.failure = none := fun hk => by
    refine h.frame.not_failed fun hp => hk ?_
    have := h.frame.kind
    rwa [MgmtLink.KindNamed, hp] at this
  refine ⟨?_, fun g => ?_⟩
  · rw [State.closeFrame_eq]
    refine .of_not_reading nofun rfl (fun _ => rfl) rfl fun hf => absurd ?_ hf
    dsimp only
    split
    · rfl
    · next hk => exact failure hk
  · rw [State.closeFrame_group, State.closeFrame_eq]
    by_cases hc : s.mgmt.claiming = some g
    · rw [if_pos (show (s.updPins _).mgmt.claiming = some g from hc)]
      exact (h.groups g).released (.refl _) _
    · rw [if_neg (show ¬(s.updPins _).mgmt.claiming = some g from hc)]
      exact (h.groups g).of_unclaimed hc _

theorem State.NoticeSound.openFrame {s : State} (h : s.NoticeSound) (hcs : s.pins.csLow = false) :
    (s.updPins fun k => { k with csLow := true }).openFrame.NoticeSound where
  frame := by
    have idle := h.frame.closed hcs
    have kind := h.frame.kind
    rw [MgmtLink.KindNamed, idle] at kind
    exact .of_not_reading nofun (h.frame.not_claiming (by rw [idle]; nofun)) nofun kind
      fun hf => absurd (h.frame.not_failed (by rw [idle]; nofun)) hf
  groups := h.groups

theorem State.NoticeSound.takeOpcode {s : State} (h : s.NoticeSound) (hp : s.mgmt.phase = .opcode) (b : Byte) :
    (s.updMgmt (·.takeOpcode b)).NoticeSound := by
  have csLow := h.frame.csLow_of_open (by rw [hp]; nofun)
  have claiming := h.frame.not_claiming (by rw [hp]; nofun)
  have failure := h.frame.not_failed (by rw [hp]; nofun)
  have kind := h.frame.kind
  rw [MgmtLink.KindNamed, hp] at kind
  have sound : ∀ {p : FramePhase} {k : Option FrameKind}, p ≠ .reading → ({ s.mgmt with phase := p, kind := k } :
      MgmtLink).KindNamed → State.NoticeSound { s with mgmt := { s.mgmt with phase := p, kind := k } } := fun hne hk =>
    ⟨.of_not_reading hne claiming (fun hc => absurd hc (by rw [csLow]; nofun)) hk fun hf => absurd failure hf, h.groups⟩
  unfold State.updMgmt MgmtLink.takeOpcode
  split_ifs
  · exact sound nofun nofun
  · exact sound nofun nofun
  · exact sound nofun kind

theorem State.NoticeSound.takeAddress {s : State} (h : s.NoticeSound) (hp : s.mgmt.phase = .address) (a : Addr) :
    (s.takeAddress a).NoticeSound := by
  have csLow := h.frame.csLow_of_open (by rw [hp]; nofun)
  have claiming := h.frame.not_claiming (by rw [hp]; nofun)
  have failure := h.frame.not_failed (by rw [hp]; nofun)
  unfold State.takeAddress
  split
  · next hk =>
    refine State.BetweenWords.captureAt ?_ a
    exact ⟨csLow, rfl, hk, failure, claiming, fun g => claiming ▸ h.groups g⟩
  · next hk =>
    exact ⟨.of_not_reading nofun claiming (fun hc => absurd hc (by rw [State.updMgmt_pins, csLow]; nofun)) hk
      fun _ => rfl, h.groups⟩
  · exact h

/-! ## Every step -/

/-- A word taken in a WRITE frame (R161, R163). -/
theorem State.NoticeSound.wordTaken {s u : State} {n : MgmtLink} (h : s.NoticeSound)
    (hp : s.mgmt.phase = .writing) (hu : NoticeKept s u) (hn : s.mgmt.PassedBy n) :
    State.NoticeSound { u with mgmt := n } := by
  have phase : n.phase = .writing := by rw [hn]; exact hp
  have claiming : n.claiming = none := by rw [hn]; exact h.frame.not_claiming (by rw [hp]; nofun)
  have csLow := h.frame.csLow_of_open (by rw [hp]; nofun)
  have kind := h.frame.kind
  rw [MgmtLink.KindNamed, hp] at kind
  refine ⟨.of_not_reading (by rw [phase]; nofun) claiming (fun hc => ?_) ?_ fun _ => phase, fun g => ?_⟩
  · rw [← hu.csLow] at csLow
    rw [csLow] at hc
    cases hc
  · rw [MgmtLink.KindNamed, phase, hn]
    exact kind
  · refine GroupRec.Sound.grows ?_ (hu.groups g)
    rw [claiming, ← h.frame.not_claiming (by rw [hp]; nofun)]
    exact h.groups g

/-- While RST# is low the link and the groups are at their power-on values. -/
theorem State.ResetLaw.mgmt {s : State} (h : s.ResetLaw) (hr : s.awake = false) : s.mgmt = .powerOn :=
  congrArg State.mgmt (h (by simpa [State.awake] using hr))

/-- A state with the link and the groups at their power-on values is sound at any level of CS. -/
theorem State.noticeSound_of_powerOn {s : State} (hm : s.mgmt = .powerOn) (hg : ∀ g, s.groups.get g = .powerOn) :
    s.NoticeSound :=
  ⟨by rw [hm]; exact MgmtLink.powerOn_framed _, fun g => by rw [hg]; exact GroupRec.powerOn_sound g _⟩

/-- CS moves while RST# is low: the frame stays closed (R166). -/
theorem State.NoticeSound.csMoved {s : State} (h : s.NoticeSound) (hm : s.mgmt = .powerOn) (b : Bool) :
    (s.updPins fun k => { k with csLow := b }).NoticeSound where
  frame := by
    rw [State.updPins_mgmt, hm]
    exact MgmtLink.powerOn_framed _
  groups := h.groups

/-- Every command keeps the laws of the frame and of the claims. -/
theorem LinkMove.noticeSound {s t : State} {i : Instr} (ht : LinkMove s i t) (h : s.NoticeSound) (hr : s.ResetLaw) :
    t.NoticeSound := by
  cases ht with
  | event _ ht => exact h.of_kept ht
  | word _ hp hu hn => exact h.wordTaken hp hu hn
  | rstAssert => exact State.noticeSound_of_powerOn rfl (State.powerOn_group false)
  | rstRelease b => exact State.noticeSound_of_powerOn rfl (State.powerOn_group b)
  | csFallAsleep hw => exact h.csMoved (hr.mgmt hw) _
  | csFall hc => exact h.openFrame hc
  | opcodeByte b hp => exact h.takeOpcode hp b
  | lastAddressBit a hp => exact h.takeAddress hp a
  | csRiseAsleep hw => exact h.csMoved (hr.mgmt hw) _
  | csRise => exact h.closeFrame
  | claimCapture g hf =>
    obtain ⟨-, hp, hc⟩ := s.readingFreely_iff.mp hf
    exact (h.between hp hc).captureAt _
  | claimCompletion g hp hg => exact (h.completed hp hg).captureAt _
  | snapshotSlotRead c hf =>
    obtain ⟨-, hp, hc⟩ := s.readingFreely_iff.mp hf
    have freed : (s.updClass c fun k => { k with slot := none }).NoticeSound := h.of_kept (.of_eq rfl rfl rfl)
    exact (freed.between hp hc).captureAt _

/-- No command but a fall of RST# brings RST# low. -/
theorem LinkMove.rstLow {s t : State} {i : Instr} (ht : LinkMove s i t) (ha : i ≠ .rstAssert)
    (hr : s.pins.rstLow = false) : t.pins.rstLow = false := by
  have captured : ∀ (u : State) (a : Addr), (u.captureAt a).pins = u.pins := fun u a => by
    unfold State.captureAt State.captureWord
    split <;> rfl
  cases ht with
  | event _ ht => exact ht.rstLow.trans hr
  | word _ hp hu hn => exact hu.rstLow.trans hr
  | rstAssert => exact absurd rfl ha
  | rstRelease b => rfl
  | csFallAsleep | csFall | opcodeByte | csRiseAsleep => exact hr
  | lastAddressBit a =>
    unfold State.takeAddress
    split
    · rw [captured]; exact hr
    · exact hr
    · exact hr
  | csRise => rw [State.closeFrame_eq]; exact hr
  | claimCapture | claimCompletion | snapshotSlotRead => rw [captured]; exact hr

/-- The reset law in the form that a change of CS keeps. -/
theorem State.ResetLaw.csMoved {s : State} (h : s.ResetLaw) (b : Bool) :
    (s.updPins fun k => { k with csLow := b }).ResetLaw := fun hr => by
  have held := h hr
  unfold State.updPins
  conv_lhs => rw [held]

/-- Every command keeps the law of RST#: while the line is low only CS moves (R166). -/
theorem resetLaw_of_exec {s t : State} {i : Instr} (ht : exec i s = .next t) (h : s.ResetLaw) : t.ResetLaw := by
  by_cases ha : i = .rstAssert
  · subst ha
    cases ht
    exact fun _ => rfl
  by_cases hr : s.pins.rstLow = true
  · by_cases hrel : ∃ b, i = .rstRelease b
    · obtain ⟨b, rfl⟩ := hrel
      cases (resetLine.2.1 b s hr).symm.trans ht
      exact nofun
    by_cases hfall : i = .csFall
    · subst hfall
      cases (exec_csFall_of_rstLow hr).symm.trans ht
      exact h.csMoved true
    by_cases hrise : i = .csRise
    · subst hrise
      cases (exec_csRise_of_rstLow hr).symm.trans ht
      exact h.csMoved false
    cases (exec_of_rstLow hr ha (not_exists.mp hrel) hfall hrise).symm.trans ht
    exact h
  · have high := (linkMove_of_exec ht).rstLow ha (Bool.eq_false_iff.mpr hr)
    exact fun low => absurd low (by rw [high]; nofun)

/-- What a step is: a base tick, or the command at the front of the queue. -/
theorem exec_of_step {s t : State} (h : step s = .next t) :
    t = s.tick ∨ ∃ i rest, exec i { s with pending := rest } = .next t := by
  unfold step at h
  split at h
  · cases h; exact .inl rfl
  · next i rest _ => exact .inr ⟨i, rest, h⟩

/-- A base tick keeps the laws: it reads a frame on at most, and while RST# is low it does nothing. -/
theorem State.NoticeSound.tick {s : State} (h : s.NoticeSound) : s.tick.NoticeSound := by
  unfold State.tick
  split
  · exact h.readTick.of_kept (.of_eq rfl rfl rfl)
  · exact h

theorem State.ResetLaw.tick {s : State} (h : s.ResetLaw) : s.tick.ResetLaw := by
  by_cases hr : s.pins.rstLow = true
  · rw [State.tick, State.ite_of_rstLow hr]
    exact h
  · have high := Bool.eq_false_iff.mpr hr
    rw [State.tick_of_awake high, State.readTick_frame]
    exact fun low => absurd low hr

theorem State.ResetLaw.withPending {s : State} (h : s.ResetLaw) (rest : List Instr) :
    State.ResetLaw { s with pending := rest } := fun hr => by
  have held := h hr
  conv_lhs => rw [held]

/-- Settles O47: a base tick and every command keep the laws, those of the frame and of the claims by what the command
makes of them. -/
theorem frameLawsKept : Obligations.FrameLawsKept := by
  intro s t hframe hclaim hreset hstep
  have h : s.NoticeSound := s.noticeSound_iff.mpr ⟨hframe, hclaim⟩
  rw [← and_assoc, ← State.noticeSound_iff]
  rcases exec_of_step hstep with rfl | ⟨i, rest, hexec⟩
  · exact ⟨h.tick, hreset.tick⟩
  · have hreset' := hreset.withPending rest
    exact ⟨(linkMove_of_exec hexec).noticeSound (h.of_kept (.of_eq rfl rfl rfl)) hreset',
      resetLaw_of_exec hexec hreset'⟩

end Sys2Proof.Machine

namespace Sys2Proof.Machine

/-! ## What clears a flag (R145, R149) -/

/-- A capture keeps every flag (R149). -/
theorem State.captureAt_flags (s : State) (a : Addr) (g : GroupId) :
    ((s.captureAt a).groups.get g).flags = (s.groups.get g).flags := by
  unfold State.captureAt State.captureWord
  split
  · next g' _ =>
    rw [State.captureClaim_groups, Table.get_put]
    split
    · next h => rw [h]; rfl
    · rfl
  · rfl

/-- The end of a frame keeps every flag (R150). -/
theorem State.closeFrame_flags (s : State) (g : GroupId) :
    (s.closeFrame.groups.get g).flags = (s.groups.get g).flags := by
  rw [State.closeFrame_group]
  split <;> rfl

theorem State.takeAddress_flags (s : State) (a : Addr) (g : GroupId) :
    ((s.takeAddress a).groups.get g).flags = (s.groups.get g).flags := by
  unfold State.takeAddress
  split
  · exact State.captureAt_flags _ a g
  · rfl
  · rfl

/-- A flag that a completion clears is of the claimed set of its group (R149). -/
theorem State.claimed_of_completeClaim {s : State} {g g' : GroupId} {i : Nat}
    (hs : (s.groups.get g).flags.getLsbD i = true)
    (ht : ((s.completeClaim g').groups.get g).flags.getLsbD i = false) :
    g' = g ∧ (s.groups.get g).claimed.getLsbD i = true := by
  rw [State.completeClaim_groups] at ht
  by_cases hg : g' = g
  · subst hg
    have hi : i < 8 := BitVec.lt_of_getLsbD hs
    rw [Table.get_put_self] at ht
    exact ⟨rfl, by simpa [hs, hi] using ht⟩
  · rw [Table.get_put_of_ne _ _ hg, hs] at ht
    cases ht

/-- Settles O52: causes are raised, captures and the end of a frame keep the flags, and a completion clears those
claimed. -/
theorem flagsClearedByClaimsAlone : Obligations.FlagsClearedByClaimsAlone := by
  intro c s t g i ha hr hexec hs ht
  have kept : (t.groups.get g).flags.getLsbD i ≠ true := by rw [ht]; nofun
  cases linkMove_of_exec hexec with
  | event _ h => exact absurd ((h.groups g).flags i hs) kept
  | word _ _ h => exact absurd ((h.groups g).flags i hs) kept
  | rstAssert => exact absurd rfl ha
  | rstRelease b => exact absurd rfl (hr b)
  | csFallAsleep | csFall | opcodeByte | csRiseAsleep => exact absurd hs kept
  | lastAddressBit a => rw [State.takeAddress_flags] at kept; exact absurd hs kept
  | csRise => rw [State.closeFrame_flags] at kept; exact absurd hs kept
  | claimCapture | snapshotSlotRead => rw [State.captureAt_flags] at kept; exact absurd hs kept
  | claimCompletion g' _ hg =>
    rw [State.captureAt_flags] at ht
    obtain ⟨rfl, hclaimed⟩ := State.claimed_of_completeClaim hs ht
    exact ⟨rfl, hg, hclaimed⟩

/-! # Enables and counters (R147, R153) -/

/-- The counter that is written is 0, and no other changes (R153). -/
theorem State.clearCounter_counter (s : State) (n m : CounterId) :
    (s.clearCounter n).counter m = if m = n then 0 else s.counter m := by
  by_cases h : m = n
  · rw [if_pos h, h]
    cases n <;> simp only [State.clearCounter, State.counter, Table.get_put_self]
  rw [if_neg h]
  cases n with
  | grants c | grantedUnits c | escapeGrants c | classRefusals c =>
    cases m with
    | grants d | grantedUnits d | escapeGrants d | classRefusals d =>
      by_cases hd : c = d
      · subst hd
        simp_all [State.counter, State.clearCounter]
      · simp [State.counter, State.clearCounter, Table.get_put_of_ne, hd]
    | _ => rfl
  | requestsTaken p | requestsRefused p | protocolFaults p =>
    cases m with
    | requestsTaken q | requestsRefused q | protocolFaults q =>
      by_cases hq : p = q
      · subst hq
        simp_all [State.counter, State.clearCounter]
      · simp [State.counter, State.clearCounter, Table.get_put_of_ne, hq]
    | _ => rfl
  | timeouts | lateDiscarded | unexpectedResponses | memoryErrors =>
    cases m with
    | timeouts | lateDiscarded | unexpectedResponses | memoryErrors => simp_all [State.counter, State.clearCounter]
    | _ => rfl

/-- Of a class, its counters alone change. -/
theorem State.clearCounter_class (s : State) (n : CounterId) (c : ClassId) :
    (s.clearCounter n).classes.get c = { s.classes.get c with
      grants := ((s.clearCounter n).classes.get c).grants
      grantedUnits := ((s.clearCounter n).classes.get c).grantedUnits
      escapeGrants := ((s.clearCounter n).classes.get c).escapeGrants
      classRefusals := ((s.clearCounter n).classes.get c).classRefusals } := by
  cases n with
  | grants d | grantedUnits d | escapeGrants d | classRefusals d =>
    simp only [State.clearCounter, Table.get_put]
    split
    · next h => rw [h]
    · rfl
  | _ => rfl

/-- Of a port, its counters alone change. -/
theorem State.clearCounter_port (s : State) (n : CounterId) (p : Port) :
    (s.clearCounter n).ports.get p = { s.ports.get p with
      requestsTaken := ((s.clearCounter n).ports.get p).requestsTaken
      requestsRefused := ((s.clearCounter n).ports.get p).requestsRefused
      protocolFaults := ((s.clearCounter n).ports.get p).protocolFaults } := by
  cases n with
  | requestsTaken q | requestsRefused q | protocolFaults q =>
    simp only [State.clearCounter, Table.get_put]
    split
    · next h => rw [h]
    · rfl
  | _ => rfl

/-- Outside the classes, the ports and the memory port's counters nothing changes. -/
theorem State.clearCounter_frame (s : State) (n : CounterId) :
    s.clearCounter n = { s with
      classes := (s.clearCounter n).classes, ports := (s.clearCounter n).ports
      mem := { s.mem with
        timeouts := (s.clearCounter n).mem.timeouts, lateDiscarded := (s.clearCounter n).mem.lateDiscarded
        unexpectedResponses := (s.clearCounter n).mem.unexpectedResponses
        memoryErrors := (s.clearCounter n).mem.memoryErrors } } := by
  cases n <;> rfl

/-- Settles O13: both words are accepted in every state. -/
theorem enableAndCounterWrites : Obligations.EnableAndCounterWrites := by
  refine ⟨fun g w s hw => ?_, fun n w s hw => ⟨s.clearCounter n, ?_, s.clearCounter_frame n, s.clearCounter_class n,
    s.clearCounter_port n, s.clearCounter_counter n⟩⟩
  · exact congrArg Host.Outcome.next (State.writeWord_accepted (w := .enable g) hw nofun rfl rfl)
  · exact congrArg Host.Outcome.next
      (State.writeWord_accepted (w := .counter n) hw nofun rfl (s.clearCounter_noticeKept n).mgmt)

/-! # Frames of the management link (R149, R150, R158, R160, R163) -/

/-- Settles O25: the frame's kind, and for a READ frame the word at the address, say what the last bit does. -/
theorem lastAddressBitSetsAddress : Obligations.LastAddressBitSetsAddress := by
  intro a s hr hp
  have taken : exec (.lastAddressBit a) s = .next (s.takeAddress a) :=
    congrArg Host.Outcome.next (if_pos (by simp [State.awake, hr, hp]))
  rw [taken]
  refine ⟨fun hk => ?_, fun hk ha => ?_, fun hk g ha => ?_⟩
  · rw [State.takeAddress, hk]
    rfl
  · rw [State.takeAddress, hk]
    dsimp only
    rw [State.captureAt_plain _ a fun g hg => ha g (decodeAddr_claim hg), State.readAt_updMgmt _ _ _ rfl]
    rfl
  · subst ha
    rw [State.takeAddress, hk]
    exact congrArg Host.Outcome.next (State.captureAt_claim _ _ g (decodeAddr_addr (.claim g)))

/-- Settles O26: the frame closed by the rise is `State.closeFrame`. -/
theorem framesClose : Obligations.FramesClose := by
  intro s hr hcs
  have closed : exec .csRise s = .next (s.updPins fun k => { k with csLow := false }).closeFrame :=
    congrArg Host.Outcome.next ((if_pos hcs).trans (if_pos (by simp [State.awake, hr])))
  exact ⟨_, closed, State.closeFrame_eq _, State.closeFrame_group _⟩

/-- An event word is read on to exactly where a free READ frame completes it next (R160). -/
theorem State.readsTo_iff (s : State) {a : Addr} (h : s.EventWord a) :
    (s.readingFreely && s.comesNext a) = true ↔
      (s.pins.rstLow = false ∧ s.mgmt.phase = .reading ∧ s.mgmt.claiming = none) ∧ s.NextEventWord a := by
  rw [Bool.and_eq_true, State.readingFreely_iff, State.comesNext_iff s h]

/-- Settles O27: the word before a claim word is one word, and the word after it its peek word. -/
theorem claimsClearWhatTheyShow : Obligations.ClaimsClearWhatTheyShow := by
  refine ⟨fun g s => ?_, fun g s hr hp hc ha => ?_⟩
  · have next := s.readsTo_iff (a := beforeClaim g) (.inr ⟨g, (beforeClaim_iff g _).mpr rfl⟩)
    refine ⟨fun a hfree ha hn => ?_, fun h => congrArg Host.Outcome.next (if_neg fun hx => h ?_)⟩
    · rw [(beforeClaim_iff g a).mp ha] at hn
      have after : beforeClaim g + 1 = (MgmtWord.claim g).addr := BitVec.sub_add_cancel ..
      refine congrArg Host.Outcome.next ((if_pos (next.mpr ⟨hfree, hn⟩)).trans ?_)
      rw [after]
      exact State.captureAt_claim _ _ g (decodeAddr_addr _)
    · obtain ⟨hfree, hn⟩ := next.mp hx
      exact ⟨hfree, _, (beforeClaim_iff g _).mpr rfl, hn⟩
  · have after : s.mgmt.address + 1 = (MgmtWord.peek g).addr := by
      show _ = BitVec.ofNat 16 (0x0901 + 4 * g.val)
      rw [ha, show 0x0901 + 4 * g.val = 0x0900 + 4 * g.val + 1 by omega]
      exact (BitVec.ofNat_add _ 1).symm
    have peek : decodeAddr (MgmtWord.peek g).addr = some (.peek g) := decodeAddr_addr _
    have completed : exec .claimCompletion s = .next ((s.completeClaim g).captureAt (s.mgmt.address + 1)) := by
      refine congrArg Host.Outcome.next ((if_pos (by simp [State.awake, hr, hp])).trans ?_)
      rw [hc]
    have word : (s.completeClaim g).readAt (MgmtWord.peek g).addr =
        ((s.groups.get g).flags &&& ~~~(s.groups.get g).claimed).zeroExtend 32 := by
      rw [State.readAt, peek]
      simp only [State.wordValue, State.completeClaim_groups, Table.get_put_self]
    rw [completed, after, State.captureAt_plain _ _ (by rw [peek]; nofun), word]
    rfl

/-! # Snapshot slots (R154 to R156) -/

/-- The capture of a class as it stands, in the words of the statements (R154). -/
theorem State.snapshotOf_eq (s : State) (c : ClassId) : s.snapshotOf c = {
    budget := (s.classes.get c).budget
    queueLength := (s.held.filter (·.cls = c)).length
    strikes := (s.classes.get c).strikes
    mark := Decidable.decide (c ∈ s.escapeList)
    tenureFlag := Decidable.decide (s.arb.holder = some c)
    tenureCount := if s.arb.holder = some c then s.arb.count else 0
    epochCounter := s.epoch.counter } := by
  simp only [State.snapshotOf, State.marked, State.holdsTenure, State.tenureCountOf, List.contains_eq_mem,
    State.queue, Bool.beq_eq_decide_eq, decide_eq_true_eq]

/-- Each class after SNAPSHOT (R155). -/
theorem State.snapshot_class (s : State) (set : Byte) (c : ClassId) :
    (s.snapshot set).classes.get c = { s.classes.get c with
      slot := if set.getLsbD c.val = true ∧ (s.classes.get c).slot = none then some (s.snapshotOf c)
        else (s.classes.get c).slot } := by
  rw [State.snapshot, State.updClasses_classes, Table.get_build]
  simp only [Bool.and_eq_true, Option.isNone_iff_eq_none]
  split <;> rfl

/-- The word after the last word of a slot is no claim word. -/
theorem LastOfSlot.not_claim {start : Addr} {c : ClassId} {a : Addr} (h : LastOfSlot start c a) (g : GroupId) :
    decodeAddr (a + 1) ≠ some (.claim g) := by
  refine not_claim_of_not_before (fun g' hg => ?_) g
  have := h.range
  unfold BeforeClaim at hg
  omega

/-- Settles O22: the command is `State.snapshot`, and the last word of a slot to complete is one word of the frame. -/
theorem snapshotSlots : Obligations.SnapshotSlots := by
  refine ⟨fun set s hw => ⟨s.snapshot set, ?_, rfl, fun c => ?_⟩, fun c s => ?_⟩
  · exact congrArg Host.Outcome.next (s.writeCommand_accepted hw rfl rfl)
  · rw [State.snapshot_class, State.snapshotOf_eq]
  · have last : LastOfSlot s.mgmt.readStart c (slotLast s.mgmt.readStart c) := (lastOfSlot_iff ..).mpr rfl
    have next := s.readsTo_iff (.inl ⟨c, last⟩)
    refine ⟨fun a hfree ha hn => ?_, fun h => congrArg Host.Outcome.next (if_neg fun hx => h ?_)⟩
    · rw [(lastOfSlot_iff ..).mp ha] at hn ⊢
      refine congrArg Host.Outcome.next ((if_pos (next.mpr ⟨hfree, hn⟩)).trans ?_)
      exact State.captureAt_plain _ _ last.not_claim
    · obtain ⟨hfree, hn⟩ := next.mp hx
      exact ⟨hfree, _, last, hn⟩

/-! # ALERT# and CAUSE_SUMMARY (R148) -/

/-- One bit for each index, put at its place, spells the number of those bits. -/
theorem sum_flagBit_eq_ofBits (n : Nat) (f : Fin n → Bool) :
    ((List.finRange n).map fun i => flagBit (f i) i.val).sum = Nat.ofBits f := by
  induction n with
  | zero => rfl
  | succ n ih =>
    have shifted : ∀ i : Fin n, flagBit (f i.succ) i.succ.val = 2 * flagBit (f i.succ) i.val := fun i => by
      unfold flagBit
      split
      · rw [Fin.val_succ, Nat.pow_succ']
      · rfl
    rw [List.finRange_succ, List.map_cons, List.sum_cons, List.map_map, Nat.ofBits_succ, ← ih (f ∘ Fin.succ),
      Nat.add_comm, ← List.sum_map_mul_left]
    congr 1
    · exact congrArg List.sum (List.map_congr_left fun i _ => shifted i)
    · cases f 0 <;> rfl

/-- CAUSE_SUMMARY as a number has a bit for each group that is indicated. -/
theorem State.causeSummary_eq (s : State) : s.causeSummary = Nat.ofBits fun g : GroupId => (s.groups.get g).indicated :=
  sum_flagBit_eq_ofBits 14 _

theorem State.readAt_causeSummary (s : State) : s.readAt 0x0940 = BitVec.ofNat 32 s.causeSummary :=
  s.readAt_of_address (w := .causeSummary) rfl

/-- Bit `g` of the word that is read is the indication of group `g` (R148, R169). -/
theorem State.readAt_causeSummary_bit (s : State) (g : GroupId) :
    (s.readAt 0x0940).getLsbD g.val = (s.groups.get g).indicated := by
  have hg : g.val < 32 := by omega
  rw [State.readAt_causeSummary, State.causeSummary_eq, BitVec.getLsbD_ofNat, Nat.testBit_ofBits_lt _ _ g.isLt]
  simp [hg]

theorem GroupRec.indicated_iff (k : GroupRec) : k.indicated = true ↔ k.flags &&& k.enables ≠ 0 := bne_iff_ne

/-- ALERT# is asserted where some group is indicated. -/
theorem State.alert_iff (s : State) : s.alert = true ↔ ∃ g, (s.groups.get g).indicated = true := by
  simp only [State.alert, List.any_eq_true, List.mem_finRange, true_and]

/-- The word reads other than 0 where some group is indicated. -/
theorem State.readAt_causeSummary_ne_zero (s : State) :
    s.readAt 0x0940 ≠ 0 ↔ ∃ g, (s.groups.get g).indicated = true := by
  refine ⟨fun h => by_contra fun hn => h ?_, fun ⟨g, hg⟩ h => ?_⟩
  · have silent : (fun g : GroupId => (s.groups.get g).indicated) = fun _ => false :=
      funext fun g => Bool.eq_false_iff.mpr fun hg => hn ⟨g, hg⟩
    rw [State.readAt_causeSummary, State.causeSummary_eq, silent]
    decide
  · rw [← s.readAt_causeSummary_bit g, h] at hg
    simp at hg

/-- Bit 2 of the status byte is the level of ALERT# (R159). -/
theorem State.statusByteNow_alert (s : State) : s.statusByteNow.getLsbD 2 = s.alert := by
  unfold State.statusByteNow
  cases s.alert <;> cases s.mgmt.result with
  | none => decide
  | some r => cases r <;> decide

/-- Settles O53: the line and the word are both the indications of the groups. -/
theorem alertIsCauseSummary : Obligations.AlertIsCauseSummary := by
  intro s
  simp only [← GroupRec.indicated_iff]
  refine ⟨s.alert_iff, s.alert_iff.trans s.readAt_causeSummary_ne_zero.symm, fun g => by rw [s.readAt_causeSummary_bit],
    fun hlaw hr => ?_, fun hr hcs => ?_, ?_⟩
  · rw [hlaw hr, Bool.eq_false_iff, ne_eq, State.alert_iff]
    rintro ⟨g, hg⟩
    rw [show _ = GroupRec.powerOn from State.powerOn_group false g] at hg
    cases hg
  · refine ⟨_, congrArg Host.Outcome.next ((if_neg (by rw [hcs]; nofun)).trans
      (if_pos (by simp [State.awake, hr]))), State.statusByteNow_alert _⟩
  · have decoded : decodeAddr 0x0940 = some .causeSummary := decodeAddr_addr .causeSummary
    refine ⟨_, rfl, ?_⟩
    split
    · unfold State.takeAddress
      split
      · rw [State.captureAt_plain _ _ (by rw [decoded]; nofun)]
        rfl
      · rfl
      · rfl
    · rfl

end Sys2Proof.Machine


/-! # The management link: the address map, a word at any address, opening a frame (R158 to R164, R169) -/

namespace Sys2Proof.Machine

/-! ## A word at any address (R161, R162, R164) -/

/-- In a WRITE frame a word is taken by the owner of the current address. -/
theorem exec_wordWrite_taken {s : State} {a : Addr} (w : Word) (hw : s.WritingAt a) :
    exec (.wordWrite w) s = .next (s.takeWord (ownWord (decodeAddr a) w)) := by
  obtain ⟨hr, hp, ha⟩ := hw
  rw [← ha]
  exact congrArg Host.Outcome.next (if_pos (by simp [State.awake, hr, hp]))

/-- `takeWord` asks the owner about this state alone. -/
theorem State.takeWord_congr {s : State} {f g : State → Except Reject State} (h : f s = g s) :
    s.takeWord f = s.takeWord g := by
  rw [State.takeWord, State.takeWord, h]

/-- At a mapped word the word is that of the row whose owner answers for it. -/
theorem exec_wordWrite_row {s : State} {w : Word} {m : MgmtWord} {own : State → Except Reject State}
    (hw : s.WritingAt m.addr) (hown : ownWord (some m) w s = own s) :
    exec (.wordWrite w) s = .next (s.writeWord m own) := by
  rw [exec_wordWrite_taken w hw, decodeAddr_addr, State.writeWord_of_writing hw, State.takeWord_congr hown]

/-- Off COMMAND a word that the address's owner refuses is recorded as R163 gives, and the address moves on. -/
theorem exec_wordWrite_refused {s : State} {w : Word} {a : Addr} {r : Reject} (hw : s.WritingAt a) (ha : a ≠ 8#16)
    (hown : ownWord (decodeAddr a) w s = .error r) : exec (.wordWrite w) s = .next (s.wordRefused r).wordPassed := by
  rw [exec_wordWrite_taken w hw, State.takeWord_refused hown (by rw [hw.2.2]; exact ha)]

/-- No owner takes a word at a read-only word (R162). -/
theorem ownWord_of_readOnly {m : MgmtWord} (hm : m.readOnly = true) (w : Word) (s : State) :
    ownWord (some m) w s = .error .badAddress := by
  cases m with
  | identity | status0 | status1 | lastReject | portState | portCredits | portLoad | budget | classState | inFlight
  | slot | claim | peek | causeSummary => rfl
  | _ => cases hm

theorem decodeAddr_unmapped {a : Addr} (h : ∀ m : MgmtWord, m.addr ≠ a) : decodeAddr a = none :=
  Option.eq_none_iff_forall_not_mem.mpr fun m hm => h m (addr_of_decodeAddr hm)

/-- The code of a COMMAND word is its bits 7 to 0. -/
theorem bitsOf_code (w : Word) : bitsOf w.toNat 0 8 = w.toNat % 256 := by simp [bitsOf]

/-- A code that names no command is refused (R164). -/
theorem ownCommand_unnamed {w : Word} (h : w.toNat % 256 = 0 ∨ 0x0A < w.toNat % 256) (s : State) :
    ownCommand w s = .error .badValue := by
  rw [ownCommand, bitsOf_code]
  rcases h with h | h
  · rw [h]
    rfl
  · obtain ⟨k, hk⟩ := Nat.exists_eq_add_of_le' (Nat.succ_le_of_lt h)
    rw [hk]
    rfl

/-- Settles O14: the owner of a word at each address is the owner of that address's own row, and at COMMAND the code
picks the row. -/
theorem wordWriteIsItsRow : Obligations.WordWriteIsItsRow := by
  intro w s
  refine ⟨fun c => ⟨?_, ?_, ?_, ?_, ?_, ?_⟩, fun p => ⟨?_, ?_⟩, ?_, ?_, ?_, fun hw hn => ?timeout, ?_, ?_,
    fun b i k => ?_, fun n => ?_, fun g => ?_, fun m hm hw => ?readOnly, fun a ha hw => ?unmapped,
    fun hw => ?command⟩
  case timeout =>
    rw [exec_wordWrite_row (m := .timeout) (own := ownTimeout w) hw rfl]
    exact congrArg Host.Outcome.next
      (s.writeWord_accepted (w := .timeout) hw nofun (if_pos (decide_eq_true hn)) rfl)
  case readOnly =>
    refine exec_wordWrite_refused hw (MgmtWord.addr_ne_command fun hc => ?_) ?_
    · subst hc; cases hm
    · rw [decodeAddr_addr, ownWord_of_readOnly hm]
  case unmapped =>
    exact exec_wordWrite_refused hw (fun h8 => ha .command h8.symm) (by rw [decodeAddr_unmapped ha]; rfl)
  case command =>
    have row : ∀ {own : State → Except Reject State}, ownCommand w s = own s →
        exec (.wordWrite w) s = .next (s.writeWord .command own) := exec_wordWrite_row (m := .command) hw
    refine ⟨fun h => row ?_, fun h => row ?_, fun h => row ?_, fun h => row ?_, fun h => row ?_, fun h => row ?_,
      fun h => row ?_, fun h => row ?_, fun h => row ?_, fun h => row ?_, fun h => ?unnamed⟩
    case unnamed => rw [row (own := ownCommand w) rfl, State.writeCommand_refused hw (ownCommand_unnamed h s)]
    all_goals simp only [ownCommand, bitsOf_code, ofNat_bitsOf, h]
  -- Every other clause is a word with a row of its own.
  all_goals exact fun hw => exec_wordWrite_row hw rfl

/-! ## The address map (R169) -/

/-- Settles O57: the map finds each word at its own address, and there alone. -/
theorem addressMapRoundTrip : Obligations.AddressMapRoundTrip :=
  ⟨decodeAddr_addr, fun _ _ => addr_of_decodeAddr⟩

/-! ## Opening a frame (R158, R159) -/

/-- Of the status byte, bits 7 to 3 are the pattern 01010, and bits 1 and 0 the result of the last WRITE frame
(R159). -/
theorem State.statusByteNow_fields (s : State) : s.statusByteNow.extractLsb' 3 5 = 0b01010
    ∧ (s.statusByteNow.extractLsb' 0 2).toNat = rejectCode s.mgmt.result := by
  unfold State.statusByteNow
  cases s.alert <;> cases s.mgmt.result with
  | none => decide
  | some r => cases r <;> decide

/-- Where the part is awake and CS is high, its fall opens a frame (R158). -/
theorem exec_csFall {s : State} (hr : s.pins.rstLow = false) (hcs : s.pins.csLow = false) :
    exec .csFall s = .next (s.updPins fun k => { k with csLow := true }).openFrame :=
  congrArg Host.Outcome.next ((if_neg (by rw [hcs]; nofun)).trans (if_pos (by simp [State.awake, hr])))

/-- Settles O24: the status byte is that of the state in which CS has fallen. -/
theorem framesOpen : Obligations.FramesOpen := by
  refine ⟨fun s hr hcs => ⟨_, exec_csFall hr hcs, (State.statusByteNow_fields _).1, ?alert, ?result⟩,
    fun b s hr hp => ?opcode, fun s n => ⟨s.sdo_released n, fun hcs hr => ⟨fun hp hn => ?status, fun hp hn => ?word,
      s.sdo_zero n hcs hr⟩⟩⟩
  case alert =>
    simp only [← GroupRec.indicated_iff]
    rw [State.statusByteNow_alert]
    exact s.alert_iff
  case result =>
    refine (State.statusByteNow_fields _).2.trans ?_
    show rejectCode s.mgmt.result = _
    cases s.mgmt.result with
    | none => rfl
    | some r => cases r <;> rfl
  case opcode => exact congrArg Host.Outcome.next (if_pos (by simp [State.awake, hr, hp]))
  case status => rw [s.sdo_opcode n hcs hr hp, BitVec.getMsbD, decide_eq_true hn, Bool.true_and]
  case word => rw [s.sdo_reading n hcs hr hp, BitVec.getMsbD, decide_eq_true hn, Bool.true_and]

end Sys2Proof.Machine


/-! # Steps and commands

A step is the command at the front of the queue.  Every command answers a next state; of the model's own fields (log 9)
it leaves the queue as it is, and only TRAFFIC_RESET makes a draw (log 8). -/

namespace Sys2Proof.Machine

/-! ## The model's own fields -/

/-- The fields that are the model's own: the waiting commands and the number of draws made (log 9). -/
def State.modelFields (s : State) : List Instr × Nat := (s.pending, s.freeIndex)

/-- The waiting commands stay as they are, and draws are not taken back. -/
structure QueueKept (s t : State) : Prop where
  pending : t.pending = s.pending
  draws : s.freeIndex ≤ t.freeIndex

theorem QueueKept.of_modelFields {s t : State} (h : t.modelFields = s.modelFields) : QueueKept s t :=
  have ⟨pending, draws⟩ := Prod.ext_iff.mp h
  ⟨pending, draws.ge⟩

theorem State.modelFields_ite {s t u : State} {p : Prop} [Decidable p] (ht : t.modelFields = s.modelFields)
    (hu : u.modelFields = s.modelFields) : (if p then t else u).modelFields = s.modelFields := by
  split
  · exact ht
  · exact hu

section modelFields
variable (s : State)

/-! Host ports. -/

theorem State.portLinkUp_modelFields (p : Port) : (s.portLinkUp p).modelFields = s.modelFields := by
  unfold State.portLinkUp
  cases (s.ports.get p).state <;> rfl

theorem State.portLinkLost_modelFields (p : Port) : (s.portLinkLost p).modelFields = s.modelFields :=
  modelFields_ite rfl rfl

theorem State.responseSent_modelFields (p : Port) : (s.responseSent p).modelFields = s.modelFields :=
  modelFields_ite rfl rfl

theorem State.openPort_modelFields {p : Port} {t : State} (h : s.openPort p = .ok t) :
    t.modelFields = s.modelFields := by
  unfold State.openPort at h
  split at h
  · cases h; rfl
  · cases h; exact modelFields_ite rfl rfl
  · cases h

theorem State.closePort_modelFields {p : Port} {t : State} (h : s.closePort p = .ok t) :
    t.modelFields = s.modelFields := by
  unfold State.closePort at h
  split at h
  · cases h; exact modelFields_ite rfl rfl
  · cases h; rfl
  · cases h

theorem State.resetPort_modelFields {p : Port} {t : State} (h : s.resetPort p = .ok t) :
    t.modelFields = s.modelFields := by
  unfold State.resetPort at h
  split at h
  · cases h
  · cases h; exact modelFields_ite rfl rfl

theorem State.refuseRequest_modelFields (p : Port) (tag : HostTag) (reason : RefusalReason) (cls : Option ClassId) :
    (s.refuseRequest p tag reason cls).modelFields = s.modelFields := by
  rw [State.refuseRequest_eq]
  rfl

theorem State.takeRequest_modelFields (e : StoreEntry) : (s.takeRequest e).modelFields = s.modelFields := by
  rw [State.takeRequest_eq]
  rfl

/-! The arbiter and the memory port. -/

theorem State.settleTenure_modelFields : s.settleTenure.modelFields = s.modelFields := by
  rw [State.settleTenure_frame]
  rfl

theorem State.grant_modelFields (c : ClassId) (kind : GrantKind) (e : StoreEntry) (d : DTag) :
    (s.grant c kind e d).modelFields = s.modelFields := by
  rw [State.grant_eq]
  rfl

theorem State.freeIssuing_modelFields : s.freeIssuing.modelFields = s.modelFields := by
  unfold State.freeIssuing
  split <;> rfl

theorem State.clearDownstream_modelFields : s.clearDownstream.modelFields = s.modelFields := by
  rw [State.clearDownstream_frame]
  rfl

theorem State.memoryResponse_modelFields (k : MemPacket) : (s.memoryResponse k).modelFields = s.modelFields := by
  unfold State.memoryResponse
  cases s.mem.table.get k.tag with
  | inFlight r => exact modelFields_ite rfl (modelFields_ite rfl rfl)
  | orphan | late | free => rfl

theorem State.memoryPacket_modelFields (k : MemPacket) : (s.memoryPacket k).modelFields = s.modelFields := by
  by_cases hk : k.IsResponse
  · rw [State.memoryPacket_of_isResponse hk, State.memoryResponse_modelFields]
  by_cases hc : k.kind = some .credit
  · rw [State.memoryPacket_of_credit hc]
    exact modelFields_ite rfl rfl
  · rw [State.memoryPacket_of_wrongKind hk hc]
    rfl

theorem State.memoryLinkUp_modelFields (n : Nat) : (s.memoryLinkUp n).modelFields = s.modelFields :=
  modelFields_ite rfl rfl

theorem State.timeOut_modelFields (d : DTag) : (s.timeOut d).modelFields = s.modelFields := by
  unfold State.timeOut
  split
  · exact modelFields_ite rfl rfl
  · exact modelFields_ite rfl rfl
  · rfl

/-! Classes, counters and the management link. -/

theorem State.setWaitLimit_modelFields (c : ClassId) (n : Nat) : (s.setWaitLimit c n).modelFields = s.modelFields :=
  modelFields_ite rfl (modelFields_ite rfl rfl)

theorem State.clearCounter_modelFields (n : CounterId) : (s.clearCounter n).modelFields = s.modelFields := by
  rw [State.clearCounter_frame]
  rfl

theorem State.captureAt_modelFields (a : Addr) : (s.captureAt a).modelFields = s.modelFields := by
  unfold State.captureAt State.captureWord
  split <;> rfl

theorem State.takeAddress_modelFields (a : Addr) : (s.takeAddress a).modelFields = s.modelFields := by
  unfold State.takeAddress
  split
  · exact State.captureAt_modelFields _ a
  · rfl
  · rfl

theorem State.closeFrame_modelFields : s.closeFrame.modelFields = s.modelFields := by
  rw [State.closeFrame_eq]
  rfl

end modelFields

/-- TRAFFIC_RESET makes one draw, for the order of its parts (R165), and keeps the queue. -/
theorem State.trafficReset_queueKept (s : State) : QueueKept s s.trafficReset :=
  have same := s.resetTraffic_same (Config.storePartFirst s.freeIndex)
  ⟨(congrArg State.pending same :), Nat.le_succ _⟩

/-! ## Every command -/

/-- No accepted word touches the queue, and only TRAFFIC_RESET makes a draw. -/
theorem Accepted.queueKept {s t : State} (h : Accepted s t) : QueueKept s t := by
  cases h with
  | trafficReset => exact s.trafficReset_queueKept
  | waitLimit c n => exact .of_modelFields (s.setWaitLimit_modelFields c n)
  | counter n => exact .of_modelFields (s.clearCounter_modelFields n)
  | openPort p h => exact .of_modelFields (s.openPort_modelFields h)
  | closePort p h => exact .of_modelFields (s.closePort_modelFields h)
  | resetPort p h => exact .of_modelFields (s.resetPort_modelFields h)
  | resetDownstream => exact .of_modelFields s.clearDownstream_modelFields
  | _ => exact .of_modelFields rfl

/-- No command touches the queue, those of RST# included (log 9), and none but an accepted word makes a draw. -/
theorem Effect.queueKept {s t : State} {i : Instr} (h : Effect s i t) : QueueKept s t := by
  cases h with
  | accepted _ h => exact ⟨h.queueKept.pending, h.queueKept.draws⟩
  | refused => exact .of_modelFields (State.refuseRequest_modelFields ..)
  | taken => exact .of_modelFields (State.takeRequest_modelFields ..)
  | portLinkUp p => exact .of_modelFields (s.portLinkUp_modelFields p)
  | portLinkLost p => exact .of_modelFields (s.portLinkLost_modelFields p)
  | responseSendEnd p => exact .of_modelFields (s.responseSent_modelFields p)
  | settled => exact .of_modelFields s.settleTenure_modelFields
  | granted => exact .of_modelFields ((State.grant_modelFields ..).trans s.settleTenure_modelFields)
  | sendEnd => exact .of_modelFields s.freeIssuing_modelFields
  | memoryPacket => exact .of_modelFields (s.memoryPacket_modelFields _)
  | memLinkUp => exact .of_modelFields (s.memoryLinkUp_modelFields _)
  | memLinkLost => exact .of_modelFields s.clearDownstream_modelFields
  | entryTimeout d => exact .of_modelFields (s.timeOut_modelFields d)
  | lastAddressBit a => exact .of_modelFields (s.takeAddress_modelFields a)
  | csRise => exact .of_modelFields (State.closeFrame_modelFields _)
  | claimCapture => exact .of_modelFields (s.captureAt_modelFields _)
  | claimCompletion => exact .of_modelFields (State.captureAt_modelFields ..)
  | snapshotSlotRead => exact .of_modelFields (State.captureAt_modelFields ..)
  | _ => exact .of_modelFields rfl

/-- The meaning of each command is a next state, in every state (log 2). -/
theorem exec_answers_next (i : Instr) (s : State) : ∃ t, exec i s = .next t := by
  cases i <;> exact ⟨_, rfl⟩

/-- Settles O2: the next state that a command answers is one of its effects, and each effect keeps the queue. -/
theorem commandsNeverStop : Obligations.CommandsNeverStop := fun i s =>
  have ⟨t, ht⟩ := exec_answers_next i s
  have kept := (effect_of_exec ht).queueKept
  ⟨t, ht, kept.pending, kept.draws⟩

/-- Settles O1: a queue that is not empty takes `step` to its second case. -/
theorem stepRunsFront : Obligations.StepRunsFront := fun c rest s h => by
  rw [step, h]

end Sys2Proof.Machine
